-- ==== Sys2Proof/Word.lean ====
section
/-!
DEFINITION. The plain word types of the host-operation level: a register byte, a 32-bit operation
word (30_encoding R82) and an address of the 32-entry register space (20_memory R60).
-/

namespace Sys2Proof

/-- A register value, 8 bits (20_memory R65). -/
abbrev Byte := BitVec 8

/-- One host operation word (30_encoding R82, R93). -/
abbrev Word := BitVec 32

/-- An address of the register space, 0..31 (20_memory R60). -/
abbrev Addr := BitVec 5

end Sys2Proof
end

