-- ==== Sys2Proof/Syntax.lean ====
section
/-!
DEFINITION. The instructions: one constructor per row of opcode_table.json (30_encoding R91), and the chip
types. An operand is the value its field denotes: a byte `d`, an out-of-range address `a`, a cycle count `n`,
a chip type `c`, an enable `e`, a signed level `x`, a sample width `b`.
-/

namespace Sys2Proof

/-- The two chip variants (00_scope R2, R16). -/
inductive Chip where
  | mos6581
  | mos8580
  deriving DecidableEq, Repr, Inhabited

/-- The host operations, in the order of opcode_table.json. -/
inductive Instr where
  /-- WRITE_V0.FREQ_LO (40_oscillator R125). -/
  | writeV0FreqLo (d : Byte)
  /-- WRITE_V0.FREQ_HI (40_oscillator R126). -/
  | writeV0FreqHi (d : Byte)
  /-- WRITE_V0.PW_LO (40_oscillator R127). -/
  | writeV0PwLo (d : Byte)
  /-- WRITE_V0.PW_HI (40_oscillator R128). -/
  | writeV0PwHi (d : Byte)
  /-- WRITE_V0.CONTROL (40_oscillator R129). -/
  | writeV0Control (d : Byte)
  /-- WRITE_V0.AD (41_envelope R160). -/
  | writeV0Ad (d : Byte)
  /-- WRITE_V0.SR (41_envelope R161). -/
  | writeV0Sr (d : Byte)
  /-- WRITE_V1.FREQ_LO (40_oscillator R125). -/
  | writeV1FreqLo (d : Byte)
  /-- WRITE_V1.FREQ_HI (40_oscillator R126). -/
  | writeV1FreqHi (d : Byte)
  /-- WRITE_V1.PW_LO (40_oscillator R127). -/
  | writeV1PwLo (d : Byte)
  /-- WRITE_V1.PW_HI (40_oscillator R128). -/
  | writeV1PwHi (d : Byte)
  /-- WRITE_V1.CONTROL (40_oscillator R129). -/
  | writeV1Control (d : Byte)
  /-- WRITE_V1.AD (41_envelope R160). -/
  | writeV1Ad (d : Byte)
  /-- WRITE_V1.SR (41_envelope R161). -/
  | writeV1Sr (d : Byte)
  /-- WRITE_V2.FREQ_LO (40_oscillator R125). -/
  | writeV2FreqLo (d : Byte)
  /-- WRITE_V2.FREQ_HI (40_oscillator R126). -/
  | writeV2FreqHi (d : Byte)
  /-- WRITE_V2.PW_LO (40_oscillator R127). -/
  | writeV2PwLo (d : Byte)
  /-- WRITE_V2.PW_HI (40_oscillator R128). -/
  | writeV2PwHi (d : Byte)
  /-- WRITE_V2.CONTROL (40_oscillator R129). -/
  | writeV2Control (d : Byte)
  /-- WRITE_V2.AD (41_envelope R160). -/
  | writeV2Ad (d : Byte)
  /-- WRITE_V2.SR (41_envelope R161). -/
  | writeV2Sr (d : Byte)
  /-- WRITE_FC_LO (42_filter R200). -/
  | writeFcLo (d : Byte)
  /-- WRITE_FC_HI (42_filter R201). -/
  | writeFcHi (d : Byte)
  /-- WRITE_RES_FILT (42_filter R202). -/
  | writeResFilt (d : Byte)
  /-- WRITE_MODE_VOL (42_filter R203). -/
  | writeModeVol (d : Byte)
  /-- WRITE_UNMAPPED_0x19 (45_chip R242). -/
  | writeUnmapped19 (d : Byte)
  /-- WRITE_UNMAPPED_0x1A (45_chip R242). -/
  | writeUnmapped1A (d : Byte)
  /-- WRITE_UNMAPPED_0x1B (45_chip R242). -/
  | writeUnmapped1B (d : Byte)
  /-- WRITE_UNMAPPED_0x1C (45_chip R242). -/
  | writeUnmapped1C (d : Byte)
  /-- WRITE_UNMAPPED_0x1D (45_chip R242). -/
  | writeUnmapped1D (d : Byte)
  /-- WRITE_UNMAPPED_0x1E (45_chip R242). -/
  | writeUnmapped1E (d : Byte)
  /-- WRITE_UNMAPPED_0x1F (45_chip R242). -/
  | writeUnmapped1F (d : Byte)
  /-- WRITE_OUT_OF_RANGE_0x20-0x3F (45_chip R243). -/
  | writeOutOfRange20 (a : Byte) (d : Byte)
  /-- WRITE_OUT_OF_RANGE_0x40-0x7F (45_chip R243). -/
  | writeOutOfRange40 (a : Byte) (d : Byte)
  /-- WRITE_OUT_OF_RANGE_0x80-0xFF (45_chip R243). -/
  | writeOutOfRange80 (a : Byte) (d : Byte)
  /-- READ_0x00 (45_chip R246). -/
  | read00
  /-- READ_0x01 (45_chip R246). -/
  | read01
  /-- READ_0x02 (45_chip R246). -/
  | read02
  /-- READ_0x03 (45_chip R246). -/
  | read03
  /-- READ_0x04 (45_chip R246). -/
  | read04
  /-- READ_0x05 (45_chip R246). -/
  | read05
  /-- READ_0x06 (45_chip R246). -/
  | read06
  /-- READ_0x07 (45_chip R246). -/
  | read07
  /-- READ_0x08 (45_chip R246). -/
  | read08
  /-- READ_0x09 (45_chip R246). -/
  | read09
  /-- READ_0x0A (45_chip R246). -/
  | read0A
  /-- READ_0x0B (45_chip R246). -/
  | read0B
  /-- READ_0x0C (45_chip R246). -/
  | read0C
  /-- READ_0x0D (45_chip R246). -/
  | read0D
  /-- READ_0x0E (45_chip R246). -/
  | read0E
  /-- READ_0x0F (45_chip R246). -/
  | read0F
  /-- READ_0x10 (45_chip R246). -/
  | read10
  /-- READ_0x11 (45_chip R246). -/
  | read11
  /-- READ_0x12 (45_chip R246). -/
  | read12
  /-- READ_0x13 (45_chip R246). -/
  | read13
  /-- READ_0x14 (45_chip R246). -/
  | read14
  /-- READ_0x15 (45_chip R246). -/
  | read15
  /-- READ_0x16 (45_chip R246). -/
  | read16
  /-- READ_0x17 (45_chip R246). -/
  | read17
  /-- READ_0x18 (45_chip R246). -/
  | read18
  /-- READ_0x19 (45_chip R246). -/
  | read19
  /-- READ_0x1A (45_chip R246). -/
  | read1A
  /-- READ_OSC3 (45_chip R246). -/
  | readOsc3
  /-- READ_ENV3 (45_chip R246). -/
  | readEnv3
  /-- READ_0x1D (45_chip R246). -/
  | read1D
  /-- READ_0x1E (45_chip R246). -/
  | read1E
  /-- READ_0x1F (45_chip R246). -/
  | read1F
  /-- READ_OUT_OF_RANGE_0x20-0x3F (45_chip R247). -/
  | readOutOfRange20 (a : Byte)
  /-- READ_OUT_OF_RANGE_0x40-0x7F (45_chip R247). -/
  | readOutOfRange40 (a : Byte)
  /-- READ_OUT_OF_RANGE_0x80-0xFF (45_chip R247). -/
  | readOutOfRange80 (a : Byte)
  /-- ADVANCE (45_chip R249). -/
  | advance (n : Nat)
  /-- RESET (45_chip R250). -/
  | reset
  /-- SET_CHIP_TYPE (45_chip R251). -/
  | setChipType (c : Chip)
  /-- SET_FILTER_ENABLE (45_chip R257). -/
  | setFilterEnable (e : Bool)
  /-- SET_EXT_ENABLE (45_chip R258). -/
  | setExtEnable (e : Bool)
  /-- SET_EXT_INPUT (45_chip R259). -/
  | setExtInput (x : Int)
  /-- AUDIO_OUTPUT (45_chip R262). -/
  | audioOutput (b : Nat)
  deriving DecidableEq, Repr

end Sys2Proof
end

