-- ==== Sys2Proof/WellFormed.lean ====
section
/-!
DEFINITION. Which instructions an operation word can spell (30_encoding R82..R87): the address of an
out-of-range row lies in the row's range, and a count, level or width fits its field. AUDIO_OUTPUT's
refused widths (0 and 33..63) are spelled by words, so they are well formed.
-/

namespace Sys2Proof

/-- The operands fit the row's encoding. -/
def Instr.wellFormed : Instr → Bool
  | .writeV0FreqLo _ => true
  | .writeV0FreqHi _ => true
  | .writeV0PwLo _ => true
  | .writeV0PwHi _ => true
  | .writeV0Control _ => true
  | .writeV0Ad _ => true
  | .writeV0Sr _ => true
  | .writeV1FreqLo _ => true
  | .writeV1FreqHi _ => true
  | .writeV1PwLo _ => true
  | .writeV1PwHi _ => true
  | .writeV1Control _ => true
  | .writeV1Ad _ => true
  | .writeV1Sr _ => true
  | .writeV2FreqLo _ => true
  | .writeV2FreqHi _ => true
  | .writeV2PwLo _ => true
  | .writeV2PwHi _ => true
  | .writeV2Control _ => true
  | .writeV2Ad _ => true
  | .writeV2Sr _ => true
  | .writeFcLo _ => true
  | .writeFcHi _ => true
  | .writeResFilt _ => true
  | .writeModeVol _ => true
  | .writeUnmapped19 _ => true
  | .writeUnmapped1A _ => true
  | .writeUnmapped1B _ => true
  | .writeUnmapped1C _ => true
  | .writeUnmapped1D _ => true
  | .writeUnmapped1E _ => true
  | .writeUnmapped1F _ => true
  | .writeOutOfRange20 a _ => decide (0x20 ≤ a.toNat) && decide (a.toNat ≤ 0x3F)
  | .writeOutOfRange40 a _ => decide (0x40 ≤ a.toNat) && decide (a.toNat ≤ 0x7F)
  | .writeOutOfRange80 a _ => decide (0x80 ≤ a.toNat) && decide (a.toNat ≤ 0xFF)
  | .read00 => true
  | .read01 => true
  | .read02 => true
  | .read03 => true
  | .read04 => true
  | .read05 => true
  | .read06 => true
  | .read07 => true
  | .read08 => true
  | .read09 => true
  | .read0A => true
  | .read0B => true
  | .read0C => true
  | .read0D => true
  | .read0E => true
  | .read0F => true
  | .read10 => true
  | .read11 => true
  | .read12 => true
  | .read13 => true
  | .read14 => true
  | .read15 => true
  | .read16 => true
  | .read17 => true
  | .read18 => true
  | .read19 => true
  | .read1A => true
  | .readOsc3 => true
  | .readEnv3 => true
  | .read1D => true
  | .read1E => true
  | .read1F => true
  | .readOutOfRange20 a => decide (0x20 ≤ a.toNat) && decide (a.toNat ≤ 0x3F)
  | .readOutOfRange40 a => decide (0x40 ≤ a.toNat) && decide (a.toNat ≤ 0x7F)
  | .readOutOfRange80 a => decide (0x80 ≤ a.toNat) && decide (a.toNat ≤ 0xFF)
  | .advance n => decide (n < 2 ^ 28)
  | .reset => true
  | .setChipType _ => true
  | .setFilterEnable _ => true
  | .setExtEnable _ => true
  | .setExtInput x => decide (-(2 ^ 27 : Int) ≤ x) && decide (x < (2 ^ 27 : Int))
  | .audioOutput b => decide (b < 64)

end Sys2Proof
end

