-- ==== Sys2Proof/Decode.lean ====
section
/-!
DEFINITION. The decoder of operation words, total and rejecting by name (30_encoding R82..R91, R96), and
after it the encoder written from the same field layout.
-/

namespace Sys2Proof

/-- Why a word spells no operation (30_encoding R89). -/
inductive DecodeError where
  /-- KIND is 0x9..0xF. -/
  | invalidKind (kind : Nat)
  /-- The reserved bits of the word's KIND are not all zero. -/
  | reservedBits (word : Word)
  deriving DecidableEq, Repr

/-! ### Fields of a word (30_encoding R82) -/

/-- KIND, bits 31:28. -/
def kindField (w : Word) : Nat := (w.extractLsb' 28 4).toNat

/-- A, bits 15:8. -/
def addrField (w : Word) : Byte := w.extractLsb' 8 8

/-- D, bits 7:0. -/
def dataField (w : Word) : Byte := w.extractLsb' 0 8

/-- N and X, bits 27:0. -/
def wideField (w : Word) : BitVec 28 := w.extractLsb' 0 28

/-! ### Decoding -/

/-- The WRITE of an address and a value (R83, R91). -/
def decodeWrite (a d : Byte) : Instr :=
  match a.toNat with
  | 0x00 => .writeV0FreqLo d
  | 0x01 => .writeV0FreqHi d
  | 0x02 => .writeV0PwLo d
  | 0x03 => .writeV0PwHi d
  | 0x04 => .writeV0Control d
  | 0x05 => .writeV0Ad d
  | 0x06 => .writeV0Sr d
  | 0x07 => .writeV1FreqLo d
  | 0x08 => .writeV1FreqHi d
  | 0x09 => .writeV1PwLo d
  | 0x0A => .writeV1PwHi d
  | 0x0B => .writeV1Control d
  | 0x0C => .writeV1Ad d
  | 0x0D => .writeV1Sr d
  | 0x0E => .writeV2FreqLo d
  | 0x0F => .writeV2FreqHi d
  | 0x10 => .writeV2PwLo d
  | 0x11 => .writeV2PwHi d
  | 0x12 => .writeV2Control d
  | 0x13 => .writeV2Ad d
  | 0x14 => .writeV2Sr d
  | 0x15 => .writeFcLo d
  | 0x16 => .writeFcHi d
  | 0x17 => .writeResFilt d
  | 0x18 => .writeModeVol d
  | 0x19 => .writeUnmapped19 d
  | 0x1A => .writeUnmapped1A d
  | 0x1B => .writeUnmapped1B d
  | 0x1C => .writeUnmapped1C d
  | 0x1D => .writeUnmapped1D d
  | 0x1E => .writeUnmapped1E d
  | 0x1F => .writeUnmapped1F d
  | n =>
    if n < 0x40 then .writeOutOfRange20 a d
    else if n < 0x80 then .writeOutOfRange40 a d
    else .writeOutOfRange80 a d

/-- The READ of an address (R84, R91). -/
def decodeRead (a : Byte) : Instr :=
  match a.toNat with
  | 0x00 => .read00
  | 0x01 => .read01
  | 0x02 => .read02
  | 0x03 => .read03
  | 0x04 => .read04
  | 0x05 => .read05
  | 0x06 => .read06
  | 0x07 => .read07
  | 0x08 => .read08
  | 0x09 => .read09
  | 0x0A => .read0A
  | 0x0B => .read0B
  | 0x0C => .read0C
  | 0x0D => .read0D
  | 0x0E => .read0E
  | 0x0F => .read0F
  | 0x10 => .read10
  | 0x11 => .read11
  | 0x12 => .read12
  | 0x13 => .read13
  | 0x14 => .read14
  | 0x15 => .read15
  | 0x16 => .read16
  | 0x17 => .read17
  | 0x18 => .read18
  | 0x19 => .read19
  | 0x1A => .read1A
  | 0x1B => .readOsc3
  | 0x1C => .readEnv3
  | 0x1D => .read1D
  | 0x1E => .read1E
  | 0x1F => .read1F
  | n =>
    if n < 0x40 then .readOutOfRange20 a
    else if n < 0x80 then .readOutOfRange40 a
    else .readOutOfRange80 a

/-- The instruction, if the reserved bits are zero. -/
def ifReservedZero (w : Word) (zero : Bool) (i : Instr) : Except DecodeError Instr :=
  if zero then .ok i else .error (.reservedBits w)

/-- The chip type of SET_CHIP_TYPE's bit 0 (R86). -/
def chipOfBit (b : Bool) : Chip := if b then .mos8580 else .mos6581

/-- The instruction a word spells, or why it spells none (R82..R91). -/
def decode (w : Word) : Except DecodeError Instr :=
  match kindField w with
  | 0x0 => ifReservedZero w (w.extractLsb' 16 12 == 0) (decodeWrite (addrField w) (dataField w))
  | 0x1 => ifReservedZero w (w.extractLsb' 16 12 == 0 && dataField w == 0) (decodeRead (addrField w))
  | 0x2 => .ok (.advance (wideField w).toNat)
  | 0x3 => ifReservedZero w (wideField w == 0) .reset
  | 0x4 => ifReservedZero w (w.extractLsb' 1 27 == 0) (.setChipType (chipOfBit (w.getLsbD 0)))
  | 0x5 => ifReservedZero w (w.extractLsb' 1 27 == 0) (.setFilterEnable (w.getLsbD 0))
  | 0x6 => ifReservedZero w (w.extractLsb' 1 27 == 0) (.setExtEnable (w.getLsbD 0))
  | 0x7 => .ok (.setExtInput (wideField w).toInt)
  | 0x8 => ifReservedZero w (w.extractLsb' 6 22 == 0) (.audioOutput (w.extractLsb' 0 6).toNat)
  | k => .error (.invalidKind k)

/-- The instruction read from bits numbered as opcode_table.json numbers them; the bits above `nbits`
are zero, and a word has 32 bits (R93). -/
def decodeTableWord (nbits w : Nat) : Option Instr :=
  if nbits ≤ 32 then (decode (BitVec.ofNat 32 (w % 2 ^ nbits))).toOption else none

/-! ### Encoding -/

/-- A WRITE word (R83). -/
def encodeWrite (a d : Byte) : Word := 0x0#4 ++ 0#12 ++ a ++ d

/-- A READ word (R84). -/
def encodeRead (a : Byte) : Word := 0x1#4 ++ 0#12 ++ a ++ 0#8

/-- A word with a 28-bit operand (R85, R87). -/
def encodeWide (kind : BitVec 4) (x : BitVec 28) : Word := kind ++ x

/-- A word with a one-bit operand (R86). -/
def encodeBit (kind : BitVec 4) (b : Bool) : Word := kind ++ 0#27 ++ BitVec.ofBool b

/-- SET_CHIP_TYPE's bit 0 (R86). -/
def bitOfChip : Chip → Bool
  | .mos6581 => false
  | .mos8580 => true

/-- The word of an instruction (R82..R87). -/
def encode : Instr → Word
  | .writeV0FreqLo d => encodeWrite 0x00 d
  | .writeV0FreqHi d => encodeWrite 0x01 d
  | .writeV0PwLo d => encodeWrite 0x02 d
  | .writeV0PwHi d => encodeWrite 0x03 d
  | .writeV0Control d => encodeWrite 0x04 d
  | .writeV0Ad d => encodeWrite 0x05 d
  | .writeV0Sr d => encodeWrite 0x06 d
  | .writeV1FreqLo d => encodeWrite 0x07 d
  | .writeV1FreqHi d => encodeWrite 0x08 d
  | .writeV1PwLo d => encodeWrite 0x09 d
  | .writeV1PwHi d => encodeWrite 0x0A d
  | .writeV1Control d => encodeWrite 0x0B d
  | .writeV1Ad d => encodeWrite 0x0C d
  | .writeV1Sr d => encodeWrite 0x0D d
  | .writeV2FreqLo d => encodeWrite 0x0E d
  | .writeV2FreqHi d => encodeWrite 0x0F d
  | .writeV2PwLo d => encodeWrite 0x10 d
  | .writeV2PwHi d => encodeWrite 0x11 d
  | .writeV2Control d => encodeWrite 0x12 d
  | .writeV2Ad d => encodeWrite 0x13 d
  | .writeV2Sr d => encodeWrite 0x14 d
  | .writeFcLo d => encodeWrite 0x15 d
  | .writeFcHi d => encodeWrite 0x16 d
  | .writeResFilt d => encodeWrite 0x17 d
  | .writeModeVol d => encodeWrite 0x18 d
  | .writeUnmapped19 d => encodeWrite 0x19 d
  | .writeUnmapped1A d => encodeWrite 0x1A d
  | .writeUnmapped1B d => encodeWrite 0x1B d
  | .writeUnmapped1C d => encodeWrite 0x1C d
  | .writeUnmapped1D d => encodeWrite 0x1D d
  | .writeUnmapped1E d => encodeWrite 0x1E d
  | .writeUnmapped1F d => encodeWrite 0x1F d
  | .writeOutOfRange20 a d => encodeWrite a d
  | .writeOutOfRange40 a d => encodeWrite a d
  | .writeOutOfRange80 a d => encodeWrite a d
  | .read00 => encodeRead 0x00
  | .read01 => encodeRead 0x01
  | .read02 => encodeRead 0x02
  | .read03 => encodeRead 0x03
  | .read04 => encodeRead 0x04
  | .read05 => encodeRead 0x05
  | .read06 => encodeRead 0x06
  | .read07 => encodeRead 0x07
  | .read08 => encodeRead 0x08
  | .read09 => encodeRead 0x09
  | .read0A => encodeRead 0x0A
  | .read0B => encodeRead 0x0B
  | .read0C => encodeRead 0x0C
  | .read0D => encodeRead 0x0D
  | .read0E => encodeRead 0x0E
  | .read0F => encodeRead 0x0F
  | .read10 => encodeRead 0x10
  | .read11 => encodeRead 0x11
  | .read12 => encodeRead 0x12
  | .read13 => encodeRead 0x13
  | .read14 => encodeRead 0x14
  | .read15 => encodeRead 0x15
  | .read16 => encodeRead 0x16
  | .read17 => encodeRead 0x17
  | .read18 => encodeRead 0x18
  | .read19 => encodeRead 0x19
  | .read1A => encodeRead 0x1A
  | .readOsc3 => encodeRead 0x1B
  | .readEnv3 => encodeRead 0x1C
  | .read1D => encodeRead 0x1D
  | .read1E => encodeRead 0x1E
  | .read1F => encodeRead 0x1F
  | .readOutOfRange20 a => encodeRead a
  | .readOutOfRange40 a => encodeRead a
  | .readOutOfRange80 a => encodeRead a
  | .advance n => encodeWide 0x2 (BitVec.ofNat 28 n)
  | .reset => encodeWide 0x3 0
  | .setChipType c => encodeBit 0x4 (bitOfChip c)
  | .setFilterEnable e => encodeBit 0x5 e
  | .setExtEnable e => encodeBit 0x6 e
  | .setExtInput x => encodeWide 0x7 (BitVec.ofInt 28 x)
  | .audioOutput b => 0x8#4 ++ 0#22 ++ BitVec.ofNat 6 b

end Sys2Proof
end

