-- ==== Sys2Proof/Config.lean ====
section
/-!
DEFINITION. The parameters of 00_scope R11 as one record, the constraints the spec puts on them, and
the open constants (no body) for the values the spec does not give. The machine's choice of a record
is Sys2Proof.Machine.params (Machine/Params.lean).
-/

namespace Sys2Proof

/-- How the exponential-counter period follows the counter (41_envelope R152). -/
inductive ExpPeriodMode where
  | step
  | latched
  deriving DecidableEq, Repr, Inhabited

/-- How the noise register reaches all ones under the test bit (40_oscillator R110). -/
inductive SrResetMode where
  | jump
  | bitfade
  deriving DecidableEq, Repr, Inhabited

/-- Which changes of accumulator bit 19 shift the noise register (40_oscillator R108). -/
inductive NoiseClockEdge where
  | toggle
  | rising
  deriving DecidableEq, Repr, Inhabited

/-- What a test-bit rising edge does to the noise register (40_oscillator R122). -/
inductive TestEdgeSr where
  | keep
  | clear
  deriving DecidableEq, Repr, Inhabited

/-- What a read of a non-tap offset returns (45_chip R246). -/
inductive ReadOther where
  | shadow
  | lastBus
  deriving DecidableEq, Repr, Inhabited

/-- The parameters of the model, in the order of the table of 00_scope R11. -/
structure Params where
  /-- RATE_PERIOD (R140). -/
  ratePeriod : BitVec 4 → BitVec 15
  /-- ENV_POWERUP (R33). -/
  envPowerup : Byte
  /-- GATE_ON_DELAY (R147). -/
  gateOnDelay : Nat
  /-- GATE_OFF_DELAY (R147). -/
  gateOffDelay : Nat
  /-- RATE_WRAP_TO, 0 or 1 (R149). -/
  rateWrapTo : BitVec 1
  /-- EXP_PERIOD_MODE (R152). -/
  expPeriodMode : ExpPeriodMode
  /-- ACC_RESET (R24). -/
  accReset : BitVec 24
  /-- SR_RESET (R24). -/
  srReset : BitVec 23
  /-- SHIFT_RESET_CYCLES (R110). -/
  shiftResetCycles : Chip → Nat
  /-- SR_RESET_MODE (R110). -/
  srResetMode : SrResetMode
  /-- FLOAT_TTL (R117). -/
  floatTtl : Chip → Nat
  /-- NOISE_CLOCK_EDGE (R108). -/
  noiseClockEdge : NoiseClockEdge
  /-- TEST_EDGE_SR (R122). -/
  testEdgeSr : TestEdgeSr
  /-- TEST_FALL_SHIFT (R122). -/
  testFallShift : Bool
  /-- TEST_PULSE_HIGH (R114). -/
  testPulseHigh : Bool
  /-- COMBINED_WAVE: chip, selector, top 12 accumulator bits, ring-modulated MSB (R116). -/
  combinedWave : Chip → BitVec 4 → BitVec 12 → Bool → BitVec 12
  /-- WAVE_DAC (R220). -/
  waveDac : Chip → BitVec 12 → Int
  /-- ENV_DAC (R220). -/
  envDac : Chip → Byte → Int
  /-- WAVE_ZERO (R220). -/
  waveZero : Chip → Int
  /-- VOICE_DC (R220). -/
  voiceDc : Chip → Int
  /-- SYNC_EXCEPTION (R224). -/
  syncException : Bool
  /-- CUTOFF_HZ (R182). -/
  cutoffHz : Chip → BitVec 11 → Nat
  /-- W0_MAX_1 (R183). -/
  w0Max1 : Nat
  /-- W0_MAX_DT (R183). -/
  w0MaxDt : Nat
  /-- FILTER_IN_SHIFT (R185). -/
  filterInShift : Nat
  /-- FILTER_DC (R191). -/
  filterDc : Chip → Int
  /-- W0LP (R211). -/
  w0lp : Nat
  /-- W0HP (R211). -/
  w0hp : Nat
  /-- EXT_DC (R210). -/
  extDc : Chip → Int
  /-- OUT_DIV, asked for widths 1..32 (R262). -/
  outDiv : Nat → Nat
  /-- DEFAULT_CHIP (R47). -/
  defaultChip : Chip
  /-- READ_OTHER (R246). -/
  readOther : ReadOther
  /-- ARITH_WIDTH, none for no limit (R283). -/
  arithWidth : Option Nat

/-- The constraints 00_scope R11 and the rules it names put on the parameters. The last one is the scenario's
constraint of 41_envelope R140: the rule gives this bound as sufficient, and that it is the constraint is the
model's choice (DESIGN CHOICE, log entry 32). -/
def Params.Legal (P : Params) : Prop :=
  (∀ n, P.ratePeriod n ≠ 0) ∧ P.envPowerup ≠ 0 ∧ 1 ≤ P.gateOnDelay ∧ 1 ≤ P.gateOffDelay ∧
  (∀ c, 1 ≤ P.shiftResetCycles c) ∧ (∀ c, 1 ≤ P.floatTtl c) ∧ (∀ b, 1 ≤ P.outDiv b) ∧
  255 * (P.ratePeriod 0).toNat + P.gateOnDelay ≤ 1000000

/-! ### Open constants

No constant below has a body: nothing can prove a value of one. Log entries 7, 8, 9 and 32. -/

/-- RATE_PERIOD(0) less one: every period in 1..3921, the ones that leave a gate-on delay of at least 1 within
the scenario's bound (R140, log entry 32). -/
opaque Config.ratePeriodZeroLessOne : Fin 3921

/-- RATE_PERIOD(n) less one for the nibbles other than 0, so that every period is in 1..0x7FFF (R140). -/
opaque Config.ratePeriodLessOne : BitVec 4 → Fin 0x7FFF

/-- GATE_ON_DELAY less one, before the scenario's bound is put on it (R147, R140, log entry 32). -/
opaque Config.gateOnDelayLessOne : Nat

/-- GATE_OFF_DELAY less one (R147). -/
opaque Config.gateOffDelayLessOne : Nat

/-- RATE_WRAP_TO (R149). -/
opaque Config.rateWrapTo : BitVec 1

/-- EXP_PERIOD_MODE (R152). -/
opaque Config.expPeriodMode : ExpPeriodMode

/-- SHIFT_RESET_CYCLES less one (R110). -/
opaque Config.shiftResetCyclesLessOne : Chip → Nat

/-- SR_RESET_MODE (R110). -/
opaque Config.srResetMode : SrResetMode

/-- FLOAT_TTL less one (R117). -/
opaque Config.floatTtlLessOne : Chip → Nat

/-- NOISE_CLOCK_EDGE (R108). -/
opaque Config.noiseClockEdge : NoiseClockEdge

/-- TEST_EDGE_SR (R122). -/
opaque Config.testEdgeSr : TestEdgeSr

/-- TEST_FALL_SHIFT (R122). -/
opaque Config.testFallShift : Bool

/-- TEST_PULSE_HIGH (R114). -/
opaque Config.testPulseHigh : Bool

/-- COMBINED_WAVE (R116). -/
opaque Config.combinedWave : Chip → BitVec 4 → BitVec 12 → Bool → BitVec 12

/-- WAVE_DAC, read as a signed 13-bit value (R220, log entry 9). -/
opaque Config.waveDacCode : Chip → BitVec 12 → BitVec 13

/-- ENV_DAC, read as a signed 9-bit value (R220, log entry 9). -/
opaque Config.envDacCode : Chip → Byte → BitVec 9

/-- WAVE_ZERO, read as a signed 13-bit value (R220, log entry 9). -/
opaque Config.waveZeroCode : Chip → BitVec 13

/-- SYNC_EXCEPTION (R224). -/
opaque Config.syncException : Bool

/-- CUTOFF_HZ (R182). -/
opaque Config.cutoffHz : Chip → BitVec 11 → Nat

/-- FILTER_IN_SHIFT (R185). -/
opaque Config.filterInShift : Nat

/-- FILTER_DC, read as a signed 24-bit value (R191, log entry 9). -/
opaque Config.filterDcCode : Chip → BitVec 24

/-- W0LP, 24 bits (R211, log entry 9). -/
opaque Config.w0lpCode : BitVec 24

/-- W0HP, 24 bits (R211, log entry 9). -/
opaque Config.w0hpCode : BitVec 24

/-- EXT_DC, read as a signed 24-bit value (R210, log entry 9). -/
opaque Config.extDcCode : Chip → BitVec 24

/-- OUT_DIV less one (R262). -/
opaque Config.outDivLessOne : Nat → Nat

/-- READ_OTHER (R246). -/
opaque Config.readOther : ReadOther

end Sys2Proof
end

