-- ==== Sys2Proof/Machine/Parts.lean ====
section
/-!
DEFINITION. The records and enumerations State is made of (10_state R21..R34, R46): voices, oscillator,
envelope generator, filter, external filter, configuration, the held write and the host's result.
-/

namespace Sys2Proof.Machine

/-- The three voices, numbered as 00_scope R15. -/
inductive VoiceId where
  | v0
  | v1
  | v2
  deriving DecidableEq, Repr

/-- One thing for each of the three voices. -/
structure Triple (α : Type) where
  v0 : α
  v1 : α
  v2 : α
  deriving DecidableEq, Repr

/-- The oscillator record (10_state R22). -/
structure Osc where
  acc : BitVec 24
  freq : BitVec 16
  pw : BitVec 12
  sel : BitVec 4
  test : Bool
  ring : Bool
  sync : Bool
  sr : BitVec 23
  srResetCnt : Nat
  floatVal : BitVec 12
  floatCnt : Nat
  msbRising : Bool
  deriving DecidableEq, Repr

/-- The envelope states (00_scope R16). -/
inductive EnvState where
  | attack
  | decaySustain
  | release
  deriving DecidableEq, Repr

/-- The state a pending gate event enters (10_state R25, `pipe_next`). -/
inductive GateTarget where
  | attack
  | release
  deriving DecidableEq, Repr

/-- The exponential-counter periods 1, 2, 4, 8, 16, 30 (10_state R25, `exp_period`). -/
inductive ExpPeriod where
  | p1
  | p2
  | p4
  | p8
  | p16
  | p30
  deriving DecidableEq, Repr

/-- The envelope generator record (10_state R25). -/
structure Env where
  cnt : Byte
  attack : BitVec 4
  decay : BitVec 4
  sustain : BitVec 4
  release : BitVec 4
  state : EnvState
  gate : Bool
  rateCnt : BitVec 15
  ratePeriod : BitVec 15
  expCnt : Nat
  expPeriod : ExpPeriod
  holdZero : Bool
  pipeCnt : Nat
  pipeNext : GateTarget
  deriving DecidableEq, Repr

/-- The filter record (10_state R29). -/
structure Filter where
  fc : BitVec 11
  res : BitVec 4
  filt : BitVec 4
  mode : BitVec 3
  voice3off : Bool
  vol : BitVec 4
  vhp : Int
  vbp : Int
  vlp : Int
  vnf : Int
  deriving DecidableEq, Repr

/-- The external-filter record (10_state R31). -/
structure ExtFilter where
  vlp : Int
  vhp : Int
  vo : Int
  deriving DecidableEq, Repr

/-- The configuration record (10_state R46). -/
structure Cfg where
  filterEnabled : Bool
  extEnabled : Bool
  extIn : Int
  deriving DecidableEq, Repr

/-- The MOS8580 pipeline's held write (10_state R32, 20_memory R66). -/
structure HeldWrite where
  addr : Addr
  data : Byte
  deriving DecidableEq, Repr

/-- What an operation returns to the host: a register byte (45_chip R246) or a sample (45_chip R262).
The model's own type (log entry 4). -/
inductive HostResult where
  | byte (b : Byte)
  | sample (x : Int)
  deriving DecidableEq, Repr

end Sys2Proof.Machine
end

