-- ==== Sys2Proof/Machine/Operands.lean ====
section
/-!
DEFINITION. Operand forms: the placement of register bits in fields (10_state R36..R43, 30_encoding R90),
the sustain level and exponential-period tables (41_envelope R141, R142), the resonance table
(42_filter R184) and the sync ring (44_voice_sync R222).
-/

namespace Sys2Proof.Machine

/-! ### The voices -/

/-- The entry of voice `v`. -/
def Triple.get {α : Type} (t : Triple α) : VoiceId → α
  | .v0 => t.v0
  | .v1 => t.v1
  | .v2 => t.v2

/-- The triple with the entry of voice `v` replaced. -/
def Triple.set {α : Type} (t : Triple α) (v : VoiceId) (x : α) : Triple α :=
  match v with
  | .v0 => { t with v0 := x }
  | .v1 => { t with v1 := x }
  | .v2 => { t with v2 := x }

/-- The triple with `f` applied to each entry. -/
def Triple.map {α β : Type} (f : α → β) (t : Triple α) : Triple β := ⟨f t.v0, f t.v1, f t.v2⟩

/-- The sync source of each voice: 0 from 2, 1 from 0, 2 from 1 (44_voice_sync R222). -/
def src : VoiceId → VoiceId
  | .v0 => .v2
  | .v1 => .v0
  | .v2 => .v1

/-! ### Register fields -/

/-- FREQ_LO replaces bits 7:0 of the frequency (10_state R36). -/
def withFreqLo (freq : BitVec 16) (d : Byte) : BitVec 16 := freq.extractLsb' 8 8 ++ d

/-- FREQ_HI replaces bits 15:8 of the frequency (10_state R36). -/
def withFreqHi (freq : BitVec 16) (d : Byte) : BitVec 16 := d ++ freq.extractLsb' 0 8

/-- PW_LO replaces bits 7:0 of the pulse width (10_state R37). -/
def withPwLo (pw : BitVec 12) (d : Byte) : BitVec 12 := pw.extractLsb' 8 4 ++ d

/-- PW_HI's low nibble replaces bits 11:8 of the pulse width (10_state R37). -/
def withPwHi (pw : BitVec 12) (d : Byte) : BitVec 12 := d.extractLsb' 0 4 ++ pw.extractLsb' 0 8

/-- FC_LO's bits 2:0 replace bits 2:0 of the cutoff (10_state R41). -/
def withFcLo (fc : BitVec 11) (d : Byte) : BitVec 11 := fc.extractLsb' 3 8 ++ d.extractLsb' 0 3

/-- FC_HI replaces bits 10:3 of the cutoff (10_state R41). -/
def withFcHi (fc : BitVec 11) (d : Byte) : BitVec 11 := d ++ fc.extractLsb' 0 3

/-- The high nibble of a register byte (10_state R38, R39, R40, R42). -/
def hiNibble (d : Byte) : BitVec 4 := d.extractLsb' 4 4

/-- The low nibble of a register byte (10_state R39, R40, R42, R43). -/
def loNibble (d : Byte) : BitVec 4 := d.extractLsb' 0 4

/-- CONTROL bit 0, GATE (10_state R38). -/
def ctlGate (d : Byte) : Bool := d.getLsbD 0

/-- CONTROL bit 1, SYNC (10_state R38). -/
def ctlSync (d : Byte) : Bool := d.getLsbD 1

/-- CONTROL bit 2, RING (10_state R38). -/
def ctlRing (d : Byte) : Bool := d.getLsbD 2

/-- CONTROL bit 3, TEST (10_state R38). -/
def ctlTest (d : Byte) : Bool := d.getLsbD 3

/-- MODE_VOL bits 6:4, the mode mask (10_state R43). -/
def modeMask (d : Byte) : BitVec 3 := d.extractLsb' 4 3

/-- MODE_VOL bit 7, the voice-3 mute (10_state R43). -/
def voice3Mute (d : Byte) : Bool := d.getLsbD 7

/-! ### Tables the spec gives -/

/-- The sustain level of a nibble, the nibble twice (41_envelope R141). -/
def sustainLevel (s : BitVec 4) : Byte := s ++ s

/-- The ticks of an exponential-counter period (10_state R25). -/
def ExpPeriod.ticks : ExpPeriod → Nat
  | .p1 => 1
  | .p2 => 2
  | .p4 => 4
  | .p8 => 8
  | .p16 => 16
  | .p30 => 30

/-- `expPeriodOf`, each threshold the top of its band (41_envelope R142). -/
def expPeriodOf (c : Byte) : ExpPeriod :=
  if 0x5E ≤ c.toNat then .p1
  else if 0x37 ≤ c.toNat then .p2
  else if 0x1B ≤ c.toNat then .p4
  else if 0x0F ≤ c.toNat then .p8
  else if 0x07 ≤ c.toNat then .p16
  else if 0x01 ≤ c.toNat then .p30
  else .p1

/-- The LATCHED reading: a new period only on reaching a threshold (41_envelope R152). -/
def expPeriodLatched (c : Byte) (old : ExpPeriod) : ExpPeriod :=
  if c = 0xFF then .p1
  else if c = 0x5D then .p2
  else if c = 0x36 then .p4
  else if c = 0x1A then .p8
  else if c = 0x0E then .p16
  else if c = 0x06 then .p30
  else if c = 0x00 then .p1
  else old

/-- Q1024, the truncated resonance coefficient (42_filter R184): 1024 / (0.707 + res/15), which is
15360000 / (10605 + 1000 res) in whole numbers. -/
def q1024 (res : BitVec 4) : Nat := 15360000 / (10605 + 1000 * res.toNat)

end Sys2Proof.Machine
end

