-- ==== Sys2Proof/Machine/Flags.lean ====
section
/-!
DEFINITION. The flag computations (10_state R35): the rising-MSB flag, the bit-19 event, the edges of the
test and gate bits, and the hold-zero flag. The block has no condition codes.
-/

namespace Sys2Proof.Machine

/-- `msb_rising`: bit 23 went from 0 to 1 in this add (40_oscillator R101, R102). -/
def msbRose (prev next : BitVec 24) : Bool := !prev.getLsbD 23 && next.getLsbD 23

/-- The bit-19 event that clocks the noise register (40_oscillator R108). -/
def noiseEvent (P : Params) (prev next : BitVec 24) : Bool :=
  match P.noiseClockEdge with
  | .toggle => prev.getLsbD 19 != next.getLsbD 19
  | .rising => !prev.getLsbD 19 && next.getLsbD 19

/-- A bit's 0 to 1 edge in a CONTROL write (40_oscillator R122, 41_envelope R147). -/
def risingEdge (old new : Bool) : Bool := !old && new

/-- A bit's 1 to 0 edge in a CONTROL write (40_oscillator R122, 41_envelope R147). -/
def fallingEdge (old new : Bool) : Bool := old && !new

/-- `hold_zero` after a change of the counter: set on reaching 0, else kept (41_envelope R152). -/
def holdZeroAfter (cnt : Byte) (old : Bool) : Bool := if cnt = 0 then true else old

end Sys2Proof.Machine
end

