-- ==== Sys2Proof/Machine/Memory.lean ====
section
/-!
DEFINITION. The register space's storage (20_memory R60, the shadow of 10_state R32) as a list of
address and byte pairs in one canonical form: addresses strictly rising and below 32, no byte equal to
what an unlisted address reads as. An unlisted address reads as 0, the reset content of 10_state R34
(log entry 15).
-/

namespace Sys2Proof.Machine

/-- The register space's storage. -/
abbrev Memory := List Host.Cell

/-- The byte at an address; an unlisted address reads as 0 (10_state R34). -/
def Memory.read : Memory → Nat → Byte
  | [], _ => 0
  | (k, x) :: m, a => if a = k then x else Memory.read m a

/-- Stores a byte at an address and keeps the canonical form. -/
def Memory.write : Memory → Nat → Byte → Memory
  | [], a, b => if b = 0 then [] else [(a, b)]
  | (k, x) :: m, a, b =>
    if a < k then (if b = 0 then (k, x) :: m else (a, b) :: (k, x) :: m)
    else if a = k then (if b = 0 then m else (a, b) :: m)
    else (k, x) :: Memory.write m a b

/-- The canonical form from address `lo` on. -/
def Memory.wfFrom : Nat → Memory → Bool
  | _, [] => true
  | lo, (k, x) :: m => decide (lo ≤ k) && decide (k < 32) && decide (x ≠ 0) && Memory.wfFrom (k + 1) m

/-- The canonical form: addresses strictly rising and below 32 (20_memory R60), no entry equal to what
an unlisted address reads as. -/
def Memory.wf (m : Memory) : Bool := Memory.wfFrom 0 m

end Sys2Proof.Machine
end

