-- ==== Sys2Proof/Machine/Params.lean ====
section
/-!
DEFINITION. The machine's parameter record: open Config constants where the spec gives no value, the
spec's own default number where it gives one (log entry 10), and the reset constants a log entry
names (log entries 11, 12).
-/

namespace Sys2Proof.Machine

/-- RATE_PERIOD (41_envelope R140). -/
def ratePeriodTable (n : BitVec 4) : BitVec 15 :=
  if n = 0 then BitVec.ofNat 15 (Config.ratePeriodZeroLessOne.val + 1)
  else BitVec.ofNat 15 ((Config.ratePeriodLessOne n).val + 1)

/-- GATE_ON_DELAY, at least 1 (41_envelope R147) and within the scenario's bound
255 * RATE_PERIOD(0) + GATE_ON_DELAY ≤ 1000000 (41_envelope R140, log entry 32). -/
def gateOnLatency : Nat :=
  min Config.gateOnDelayLessOne (999999 - 255 * (Config.ratePeriodZeroLessOne.val + 1)) + 1

/-- The parameters the machine runs with (00_scope R11). -/
def params : Params where
  ratePeriod := ratePeriodTable
  envPowerup := 0xAA
  gateOnDelay := gateOnLatency
  gateOffDelay := Config.gateOffDelayLessOne + 1
  rateWrapTo := Config.rateWrapTo
  expPeriodMode := Config.expPeriodMode
  accReset := 0x555555
  srReset := 0x7FFFFF
  shiftResetCycles c := Config.shiftResetCyclesLessOne c + 1
  srResetMode := Config.srResetMode
  floatTtl c := Config.floatTtlLessOne c + 1
  noiseClockEdge := Config.noiseClockEdge
  testEdgeSr := Config.testEdgeSr
  testFallShift := Config.testFallShift
  testPulseHigh := Config.testPulseHigh
  combinedWave := Config.combinedWave
  waveDac c x := (Config.waveDacCode c x).toInt
  envDac c x := (Config.envDacCode c x).toInt
  waveZero c := (Config.waveZeroCode c).toInt
  voiceDc _ := 0
  syncException := Config.syncException
  cutoffHz := Config.cutoffHz
  w0Max1 := 105414
  w0MaxDt := 26353
  filterInShift := Config.filterInShift
  filterDc c := (Config.filterDcCode c).toInt
  w0lp := Config.w0lpCode.toNat
  w0hp := Config.w0hpCode.toNat
  extDc c := (Config.extDcCode c).toInt
  outDiv b := Config.outDivLessOne b + 1
  defaultChip := .mos6581
  readOther := Config.readOther
  arithWidth := some 32

end Sys2Proof.Machine
end

