-- ==== Sys2Proof/Machine/ResetValues.lean ====
section
/-!
DEFINITION. The reset values of each record (10_state R24, R30, R31, R33; 70_reset R300).
-/

namespace Sys2Proof.Machine

/-- Reset values of an oscillator (10_state R24). -/
def Osc.atReset (P : Params) : Osc where
  acc := P.accReset
  freq := 0
  pw := 0
  sel := 0
  test := false
  ring := false
  sync := false
  sr := P.srReset
  srResetCnt := 0
  floatVal := 0
  floatCnt := 0
  msbRising := false

/-- EXP_INIT (10_state R33). -/
def expInit (P : Params) : ExpPeriod :=
  match P.expPeriodMode with
  | .step => expPeriodOf P.envPowerup
  | .latched => .p1

/-- Reset values of an envelope generator (10_state R33). -/
def Env.atReset (P : Params) : Env where
  cnt := P.envPowerup
  attack := 0
  decay := 0
  sustain := 0
  release := 0
  state := .release
  gate := false
  rateCnt := 0
  ratePeriod := P.ratePeriod 0
  expCnt := 0
  expPeriod := expInit P
  holdZero := false
  pipeCnt := 0
  pipeNext := .release

/-- Reset values of the filter (10_state R30). -/
def Filter.atReset : Filter where
  fc := 0
  res := 0
  filt := 0
  mode := 0
  voice3off := false
  vol := 0
  vhp := 0
  vbp := 0
  vlp := 0
  vnf := 0

/-- Reset values of the external filter (10_state R31). -/
def ExtFilter.atReset : ExtFilter where
  vlp := 0
  vhp := 0
  vo := 0

/-- The configuration at power-up (10_state R47). -/
def Cfg.atPowerUp : Cfg where
  filterEnabled := true
  extEnabled := true
  extIn := 0

end Sys2Proof.Machine
end

