-- ==== Sys2Proof/Machine/State.lean ====
section
/-!
DEFINITION. The state of the block (10_state R21, R50) with the spec's model-only marks (R48) and the
model's own host-side fields, the reasons the marks hold, and the state after reset.
-/

namespace Sys2Proof.Machine

/-- The rule whose arithmetic left ARITH_WIDTH bits (60_exceptions R283). -/
inductive OverflowSite where
  /-- 44_voice_sync R220, the voice output. -/
  | r220
  /-- 42_filter R186, the routing sums. -/
  | r186
  /-- 42_filter R187, the disabled filter's sum. -/
  | r187
  /-- 42_filter R188, a one-cycle filter step. -/
  | r188
  /-- 42_filter R189, a multi-cycle filter step. -/
  | r189
  /-- 42_filter R191, the filter output. -/
  | r191
  /-- 43_external_filter R212, the external filter. -/
  | r212
  /-- 45_chip R262, the sample before its clamp. -/
  | r262
  deriving DecidableEq, Repr

/-- The fault reasons of 60_exceptions R283. -/
inductive Fault where
  /-- Raised by ADVANCE and AUDIO_OUTPUT when a signed value leaves ARITH_WIDTH bits (R283): the mark
  `fault` of the next state, never a stop of the machine. Safe: the block makes no further change. -/
  | overflow (site : OverflowSite)
  deriving DecidableEq, Repr

/-- The refusal reasons of 60_exceptions R284, and the reason of an instruction without a meaning. -/
inductive Refusal where
  /-- An instruction this model gives no meaning; no arm of exec uses it. Safe: the machine stops. -/
  | notModelled (mnemonic : String)
  /-- An operation word with KIND 0x9..0xF (R284), raised by step as the mark `refused`. Safe: the block
  makes no further change. -/
  | invalidKind (kind : Nat)
  /-- A word of KIND 0x0..0x8 with non-zero reserved bits (R284), raised by step as the mark
  `refused`. Safe: the block makes no further change. -/
  | reservedBits (word : Word)
  /-- READ with an address above 31 (45_chip R247), raised by the READ meanings as the mark `refused`.
  Safe: the block makes no further change. -/
  | readOutOfRange (addr : Nat)
  /-- AUDIO_OUTPUT with a width outside 1..32 (45_chip R262), raised by its meaning as the mark
  `refused`. Safe: the block makes no further change. -/
  | badOutputWidth (bits : Nat)
  /-- An operation issued inside an advance (60_exceptions R286). Nobody raises it: a stream of atomic
  operations cannot express re-entry (log entry 23). Safe. -/
  | reentered
  deriving DecidableEq, Repr

/-- The state of one block (10_state R50), its host's stream and the value it last returned. -/
structure State where
  /-- The three oscillators (10_state R22). -/
  osc : Triple Osc
  /-- The three envelope generators (10_state R25). -/
  env : Triple Env
  /-- The filter (10_state R29). -/
  flt : Filter
  /-- The external filter (10_state R31). -/
  ext : ExtFilter
  /-- The register shadow (10_state R32). -/
  shadow : Memory
  /-- The byte of the most recently applied in-range write (10_state R32). -/
  lastBus : Byte
  /-- The active chip type (10_state R32). -/
  chip : Chip
  /-- The write pipeline's held write (10_state R32). -/
  pending : Option HeldWrite
  /-- The configuration (10_state R46). -/
  cfg : Cfg
  /-- The overflow mark (10_state R48). -/
  fault : Option Fault
  /-- The refusal mark (10_state R48). -/
  refused : Option Refusal
  /-- The host operation words not yet taken (the model's own field, log entry 1). -/
  stream : List Word
  /-- The index of the next host operation (10_state R20; the model's own field, log entry 1). -/
  pc : Nat
  /-- What the last READ or AUDIO_OUTPUT returned (the model's own field, log entry 4). -/
  result : Option HostResult
  deriving DecidableEq, Repr

/-- The power-up state for a parameter record (10_state R47, 70_reset R302), with an empty stream. -/
def State.powerUp (P : Params) : State where
  osc := ⟨Osc.atReset P, Osc.atReset P, Osc.atReset P⟩
  env := ⟨Env.atReset P, Env.atReset P, Env.atReset P⟩
  flt := Filter.atReset
  ext := ExtFilter.atReset
  shadow := []
  lastBus := 0
  chip := P.defaultChip
  pending := none
  cfg := Cfg.atPowerUp
  fault := none
  refused := none
  stream := []
  pc := 0
  result := none

/-- The state right after power-up, which is reset plus the defaults (70_reset R302). -/
def State.reset : State := State.powerUp params

end Sys2Proof.Machine
end

