-- ==== Sys2Proof/Machine/Ops.lean ====
section
/-!
DEFINITION. The named operations over State: the two model-only outcomes (60_exceptions R283, R284) and the
quiescence after them, checked arithmetic, register-space access, and the field updates.
-/

namespace Sys2Proof.Machine

/-! ### Field updates -/

/-- Replaces the oscillator of voice `v`. -/
def State.setOsc (s : State) (v : VoiceId) (o : Osc) : State := { s with osc := s.osc.set v o }

/-- Replaces the envelope generator of voice `v`. -/
def State.setEnv (s : State) (v : VoiceId) (e : Env) : State := { s with env := s.env.set v e }

/-- Replaces the three voices. -/
def State.setVoices (s : State) (osc : Triple Osc) (env : Triple Env) : State :=
  { s with osc := osc, env := env }

/-- Replaces the filter. -/
def State.setFlt (s : State) (f : Filter) : State := { s with flt := f }

/-- Replaces the external filter. -/
def State.setExt (s : State) (e : ExtFilter) : State := { s with ext := e }

/-- Stores a byte in the shadow and on the bus (45_chip R241). -/
def State.storeShadow (s : State) (a : Addr) (d : Byte) : State :=
  { s with shadow := s.shadow.write a.toNat d, lastBus := d }

/-- Replaces the held write. -/
def State.setPending (s : State) (p : Option HeldWrite) : State := { s with pending := p }

/-- Replaces the chip type. -/
def State.setChip (s : State) (c : Chip) : State := { s with chip := c }

/-- Replaces the configuration. -/
def State.setCfg (s : State) (c : Cfg) : State := { s with cfg := c }

/-- Records the value an operation returns to the host (log entry 4). -/
def State.setResult (s : State) (r : HostResult) : State := { s with result := some r }

/-- The byte of the register space at address `a` (the shadow, 10_state R32). -/
def State.readShadow (s : State) (a : Nat) : Byte := s.shadow.read a

/-! ### The model-only outcomes -/

/-- A fault or refusal mark is set; every later operation leaves the state unchanged (60_exceptions R283,
R284). -/
def State.quiescent (s : State) : Bool := s.fault.isSome || s.refused.isSome

/-- `raise`: sets the fault mark if none is set; the operation's other changes are discarded by the
caller (60_exceptions R283). -/
def State.raise (s : State) (f : Fault) : State :=
  match s.fault with
  | none => { s with fault := some f }
  | some _ => s

/-- `refuse`: sets the refusal mark if none is set, and changes nothing else (60_exceptions R284). -/
def State.refuse (s : State) (r : Refusal) : State :=
  match s.refused with
  | none => { s with refused := some r }
  | some _ => s

/-- The end of every operation: the new state, or the unchanged one when the block is quiescent
(60_exceptions R283, R284). DESIGN CHOICE (log entry 33): a READ or AUDIO_OUTPUT of a quiescent block returns no
value to the host, so `result` stays too. -/
def afterOp (s t : State) : Host.Outcome State Fault Refusal := .next (if s.quiescent then s else t)

/-- The end of an operation that may overflow: its result, or the state before it with the fault mark
(60_exceptions R283). -/
def State.orRaise (s : State) : Except Fault State → State
  | .ok t => t
  | .error f => s.raise f

/-! ### Checked arithmetic -/

/-- The value is inside ARITH_WIDTH bits (60_exceptions R283). -/
def fits (P : Params) (x : Int) : Bool :=
  match P.arithWidth with
  | none => true
  | some w => decide (-(2 ^ (w - 1) : Int) ≤ x) && decide (x ≤ (2 ^ (w - 1) : Int) - 1)

/-- An intermediate or assigned value of rule `r`, or the overflow fault (60_exceptions R283). -/
def checked (P : Params) (r : OverflowSite) (x : Int) : Except Fault Int :=
  if fits P x then .ok x else .error (.overflow r)

/-- A sum from left to right, each partial sum checked (log entry 16). -/
def checkedSum (P : Params) (r : OverflowSite) (xs : List Int) : Except Fault Int :=
  xs.foldlM (fun a x => checked P r (a + x)) 0

/-- The sub-steps of an advance over `n` cycles: eights, and the remainder last (42_filter R189,
43_external_filter R212). -/
def subSteps (n : Nat) : List Nat :=
  List.replicate (n / 8) 8 ++ (if n % 8 = 0 then [] else [n % 8])

end Sys2Proof.Machine
end

