-- ==== Sys2Proof/Machine/ExternalFilter.lean ====
section
/-!
DEFINITION. The external filter (43_external_filter): one low-pass and one high-pass stage.
-/

namespace Sys2Proof.Machine

/-- One sub-step of `d` cycles; the output is latched before the update (R212). -/
def extSubStep (P : Params) (vin : Int) (e : ExtFilter) (d : Nat) : Except Fault ExtFilter := do
  let vo ← checked P .r212 (e.vlp - e.vhp)
  let wl ← checked P .r212 ((P.w0lp : Int) * d)
  let wl8 ← checked P .r212 (wl >>> (8 : Nat))
  let dl ← checked P .r212 (vin - e.vlp)
  let pl ← checked P .r212 (wl8 * dl)
  let dVlp ← checked P .r212 (pl >>> (12 : Nat))
  let wh ← checked P .r212 ((P.w0hp : Int) * d)
  let dh ← checked P .r212 (e.vlp - e.vhp)
  let ph ← checked P .r212 (wh * dh)
  let dVhp ← checked P .r212 (ph >>> (20 : Nat))
  let vlp ← checked P .r212 (e.vlp + dVlp)
  let vhp ← checked P .r212 (e.vhp + dVhp)
  pure { vlp := vlp, vhp := vhp, vo := vo }

/-- `extAdvance` over `n` cycles (R210, R212). -/
def extAdvance (P : Params) (c : Chip) (cfg : Cfg) (n : Nat) (vin : Int) (e : ExtFilter) :
    Except Fault ExtFilter :=
  if n = 0 then .ok e
  else if cfg.extEnabled then (subSteps n).foldlM (extSubStep P vin) e
  else do
    let dc ← checked P .r212 (P.extDc c)
    let vo ← checked P .r212 (vin - dc)
    pure { vlp := 0, vhp := 0, vo := vo }

end Sys2Proof.Machine
end

