-- ==== Sys2Proof/Machine/FilterUnit.lean ====
section
/-!
DEFINITION. The state-variable filter (42_filter): coefficients, routing, integration, output and
register writes.
-/

namespace Sys2Proof.Machine

/-- W0_OF_HZ, trunc(2 pi f 1.048576) (R182; the constant in log entry 17). -/
def w0OfHz (f : Nat) : Nat := f * 6588397316661142 / 1000000000000000

/-- The cutoff coefficient of a cutoff register value (R182). -/
def w0 (P : Params) (c : Chip) (fc : BitVec 11) : Nat := w0OfHz (P.cutoffHz c fc)

/-- The coefficient of a one-cycle advance (R183). -/
def w0Ceil1 (P : Params) (c : Chip) (fc : BitVec 11) : Nat := min (w0 P c fc) P.w0Max1

/-- The coefficient of a multi-cycle advance (R183). -/
def w0CeilDt (P : Params) (c : Chip) (fc : BitVec 11) : Nat := min (w0 P c fc) P.w0MaxDt

/-- The four inputs of the routing with whether each goes to the filter: voices 0, 1, 2, external input
(R185, R186). -/
def routeInputs (P : Params) (f : Filter) (v0 v1 v2 x : Int) : Except Fault (List (Bool × Int)) := do
  let i0 ← checked P .r186 (v0 >>> P.filterInShift)
  let i1 ← checked P .r186 (v1 >>> P.filterInShift)
  let i2 ← checked P .r186 (if f.voice3off && !f.filt.getLsbD 2 then 0 else v2 >>> P.filterInShift)
  let ix ← checked P .r186 (x >>> P.filterInShift)
  pure [(f.filt.getLsbD 0, i0), (f.filt.getLsbD 1, i1), (f.filt.getLsbD 2, i2), (f.filt.getLsbD 3, ix)]

/-- `route`: the filter input and the bypass sum (R186). -/
def route (P : Params) (f : Filter) (v0 v1 v2 x : Int) : Except Fault (Int × Int) := do
  let inputs ← routeInputs P f v0 v1 v2 x
  let vi ← checkedSum P .r186 ((inputs.filter (fun p => p.1)).map Prod.snd)
  let vnf ← checkedSum P .r186 ((inputs.filter (fun p => !p.1)).map Prod.snd)
  pure (vi, vnf)

/-- The state equations of one step, `w` the coefficient and `k` its scale (R188, R189). -/
def svfStep (P : Params) (site : OverflowSite) (w : Int) (k : Nat) (vi : Int) (f : Filter) :
    Except Fault Filter := do
  let pBp ← checked P site (w * f.vhp)
  let dVbp ← checked P site (pBp >>> k)
  let pLp ← checked P site (w * f.vbp)
  let dVlp ← checked P site (pLp >>> k)
  let vbp ← checked P site (f.vbp - dVbp)
  let vlp ← checked P site (f.vlp - dVlp)
  let pq ← checked P site (vbp * q1024 f.res)
  let q ← checked P site (pq >>> (10 : Nat))
  let d ← checked P site (q - vlp)
  let vhp ← checked P site (d - vi)
  pure { f with vbp := vbp, vlp := vlp, vhp := vhp }

/-- A one-cycle advance (R188). -/
def svfStep1 (P : Params) (c : Chip) (vi : Int) (f : Filter) : Except Fault Filter :=
  svfStep P .r188 (w0Ceil1 P c f.fc) 20 vi f

/-- One sub-step of `d` cycles of a multi-cycle advance (R189). -/
def svfSubStep (P : Params) (c : Chip) (vi : Int) (f : Filter) (d : Nat) : Except Fault Filter := do
  let p ← checked P .r189 (w0CeilDt P c f.fc * d)
  let w ← checked P .r189 (p >>> (6 : Nat))
  svfStep P .r189 w 14 vi f

/-- A multi-cycle advance (R189). -/
def svfStepsDt (P : Params) (c : Chip) (n : Nat) (vi : Int) (f : Filter) : Except Fault Filter :=
  (subSteps n).foldlM (svfSubStep P c vi) f

/-- `filterAdvance` over `n` cycles (R187, R190). -/
def filterAdvance (P : Params) (c : Chip) (cfg : Cfg) (n : Nat) (v0 v1 v2 : Int) (f : Filter) :
    Except Fault Filter :=
  if n = 0 then .ok f
  else do
    let (vi, vnf) ← route P f v0 v1 v2 cfg.extIn
    if cfg.filterEnabled then
      if n = 1 then svfStep1 P c vi { f with vnf := vnf }
      else svfStepsDt P c n vi { f with vnf := vnf }
    else do
      let sum ← checked P .r187 (vi + vnf)
      pure { f with vnf := sum, vhp := 0, vbp := 0, vlp := 0 }

/-- `filterOutput` (R191). -/
def filterOutput (P : Params) (c : Chip) (cfg : Cfg) (f : Filter) : Except Fault Int := do
  let vf ← checkedSum P .r191
    [if f.mode.getLsbD 0 then f.vlp else 0, if f.mode.getLsbD 1 then f.vbp else 0,
     if f.mode.getLsbD 2 then f.vhp else 0]
  let a ← checked P .r191 (f.vnf + (if cfg.filterEnabled then vf else 0))
  let dc ← checked P .r191 (P.filterDc c)
  let b ← checked P .r191 (a + dc)
  checked P .r191 (b * f.vol.toNat)

/-! ### Register writes -/

/-- WRITE FC_LO (R200). -/
def Filter.writeFcLo (f : Filter) (d : Byte) : Filter := { f with fc := withFcLo f.fc d }

/-- WRITE FC_HI (R201). -/
def Filter.writeFcHi (f : Filter) (d : Byte) : Filter := { f with fc := withFcHi f.fc d }

/-- WRITE RES_FILT (R202). -/
def Filter.writeResFilt (f : Filter) (d : Byte) : Filter := { f with res := hiNibble d, filt := loNibble d }

/-- WRITE MODE_VOL (R203). -/
def Filter.writeModeVol (f : Filter) (d : Byte) : Filter :=
  { f with vol := loNibble d, mode := modeMask d, voice3off := voice3Mute d }

end Sys2Proof.Machine
end

