-- ==== Sys2Proof/Machine/Envelope.lean ====
section
/-!
DEFINITION. The envelope generator (41_envelope): the gate pipeline, the rate and exponential counters,
the steps, one cycle, and the envelope half of the register writes.
-/

namespace Sys2Proof.Machine

/-- `ratePeriodFor`: the period of the state's own nibble (R146). -/
def Env.periodFor (P : Params) (e : Env) : EnvState → BitVec 15
  | .attack => P.ratePeriod e.attack
  | .decaySustain => P.ratePeriod e.decay
  | .release => P.ratePeriod e.release

/-- `enterState`: the end of a gate event's delay (R148). -/
def Env.enterState (P : Params) (e : Env) : GateTarget → Env
  | .attack => { e with state := .attack, holdZero := false, ratePeriod := P.ratePeriod e.attack }
  | .release => { e with state := .release, ratePeriod := P.ratePeriod e.release }

/-- The gate pipeline's countdown, run at the start of a cycle (R148). -/
def Env.pipelineStep (P : Params) (e : Env) : Env :=
  if e.pipeCnt = 0 then e
  else if e.pipeCnt = 1 then Env.enterState P { e with pipeCnt := 0 } e.pipeNext
  else { e with pipeCnt := e.pipeCnt - 1 }

/-- The rate counter's next value, wrapping at 0x8000 (R149). -/
def rateNext (P : Params) (cnt : BitVec 15) : BitVec 15 :=
  if cnt = 0x7FFF then P.rateWrapTo.setWidth 15 else cnt + 1

/-- `expUpdate`, run after every change of the counter (R152). -/
def Env.expUpdate (P : Params) (e : Env) : Env :=
  { e with expPeriod := match P.expPeriodMode with
             | .step => expPeriodOf e.cnt
             | .latched => expPeriodLatched e.cnt e.expPeriod
           holdZero := holdZeroAfter e.cnt e.holdZero }

/-- A tick in ATTACK (R153). -/
def Env.attackStep (P : Params) (e : Env) : Env :=
  let e1 := if e.cnt = 0xFF then e else Env.expUpdate P { e with cnt := e.cnt + 1 }
  if e1.cnt = 0xFF then { e1 with state := .decaySustain, ratePeriod := P.ratePeriod e1.decay } else e1

/-- A step in DECAY_SUSTAIN (R154). -/
def Env.decayStep (P : Params) (e : Env) : Env :=
  if (sustainLevel e.sustain).toNat < e.cnt.toNat then Env.expUpdate P { e with cnt := e.cnt - 1 } else e

/-- A step in RELEASE, which never wraps (R155, R156). -/
def Env.releaseStep (P : Params) (e : Env) : Env :=
  if e.cnt = 0 then { e with holdZero := true } else Env.expUpdate P { e with cnt := e.cnt - 1 }

/-- The exponential counter on a tick outside ATTACK: `step` runs when the period is reached and the
counter is not held at zero (R151, R157). -/
def Env.expTick (e : Env) (step : Env → Env) : Env :=
  if e.expCnt + 1 ≠ e.expPeriod.ticks then { e with expCnt := e.expCnt + 1 }
  else if e.holdZero then { e with expCnt := 0 }
  else step { e with expCnt := 0 }

/-- A tick of the rate counter (R150, R157). -/
def Env.tick (P : Params) (e : Env) : Env :=
  match e.state with
  | .attack => Env.attackStep P { e with expCnt := 0 }
  | .decaySustain => e.expTick (Env.decayStep P)
  | .release => e.expTick (Env.releaseStep P)

/-- The rate counter and what a tick does (R149, R157). -/
def Env.rateStep (P : Params) (e : Env) : Env :=
  if rateNext P e.rateCnt = e.ratePeriod then Env.tick P { e with rateCnt := 0 }
  else { e with rateCnt := rateNext P e.rateCnt }

/-- One cycle of an envelope generator (R157). -/
def Env.cycle (P : Params) (e : Env) : Env := Env.rateStep P (Env.pipelineStep P e)

/-! ### Register writes -/

/-- The gate half of a CONTROL write (R147). -/
def Env.gateWrite (P : Params) (e : Env) (g : Bool) : Env :=
  if risingEdge e.gate g then { e with gate := g, pipeNext := .attack, pipeCnt := P.gateOnDelay }
  else if fallingEdge e.gate g then { e with gate := g, pipeNext := .release, pipeCnt := P.gateOffDelay }
  else { e with gate := g }

/-- WRITE ATTACK_DECAY (R160). -/
def Env.writeAttackDecay (P : Params) (e : Env) (d : Byte) : Env :=
  let e1 := { e with attack := hiNibble d, decay := loNibble d }
  match e.state with
  | .attack => { e1 with ratePeriod := P.ratePeriod (hiNibble d) }
  | .decaySustain => { e1 with ratePeriod := P.ratePeriod (loNibble d) }
  | .release => e1

/-- WRITE SUSTAIN_RELEASE (R161). -/
def Env.writeSustainRelease (P : Params) (e : Env) (d : Byte) : Env :=
  let e1 := { e with sustain := hiNibble d, release := loNibble d }
  match e.state with
  | .release => { e1 with ratePeriod := P.ratePeriod (loNibble d) }
  | .attack => e1
  | .decaySustain => e1

end Sys2Proof.Machine
end

