-- ==== Sys2Proof/Machine/Oscillator.lean ====
section
/-!
DEFINITION. The oscillator (40_oscillator): one cycle, the noise register, the waveforms, the output
multiplexer and the oscillator half of a CONTROL write. Hard sync is in Voice.lean.
-/

namespace Sys2Proof.Machine

/-! ### One cycle -/

/-- One shift of the noise register, bits 22 and 17 XORed into bit 0 (R109). -/
def shiftNoise (sr : BitVec 23) : BitVec 23 :=
  sr.extractLsb' 0 22 ++ BitVec.ofBool (sr.getLsbD 22 ^^ sr.getLsbD 17)

/-- The shift-register reset countdown, run only under the test bit (R110). -/
def Osc.shiftResetCountdown (P : Params) (c : Chip) (o : Osc) : Osc :=
  if o.srResetCnt = 0 then o
  else if o.srResetCnt = 1 then
    match P.srResetMode with
    | .jump => { o with srResetCnt := 0, sr := 0x7FFFFF }
    | .bitfade =>
      let sr := o.sr ||| (o.sr >>> 1) ||| 0x400000
      { o with sr := sr, srResetCnt := if sr = 0x7FFFFF then 0 else P.shiftResetCycles c }
  else { o with srResetCnt := o.srResetCnt - 1 }

/-- The floating-output countdown, run every cycle (R117). -/
def Osc.floatDecay (o : Osc) : Osc :=
  if o.sel = 0 ∧ o.floatCnt ≠ 0 then
    { o with floatCnt := o.floatCnt - 1
             floatVal := if o.floatCnt = 1 then 0 else o.floatVal }
  else o

/-- The add of one cycle with the test bit clear (R101, R102, R108). -/
def Osc.count (P : Params) (o : Osc) : Osc :=
  let next := o.acc + o.freq.setWidth 24
  { o with acc := next
           msbRising := msbRose o.acc next
           sr := if noiseEvent P o.acc next then shiftNoise o.sr else o.sr }

/-- One cycle of an oscillator (R101). -/
def Osc.cycle (P : Params) (c : Chip) (o : Osc) : Osc :=
  Osc.floatDecay
    (if o.test then Osc.shiftResetCountdown P c { o with msbRising := false } else Osc.count P o)

/-! ### Waveforms -/

/-- The triangle; `srcMsb` is bit 23 of the sync source's accumulator (R112). -/
def Osc.triangle (o : Osc) (srcMsb : Bool) : BitVec 12 :=
  if o.acc.getLsbD 23 ^^ (o.ring && srcMsb) then (~~~o.acc).extractLsb' 11 12 else o.acc.extractLsb' 11 12

/-- The sawtooth (R113). -/
def Osc.sawtooth (o : Osc) : BitVec 12 := o.acc.extractLsb' 12 12

/-- The pulse (R114). -/
def Osc.pulse (P : Params) (o : Osc) : BitVec 12 :=
  if P.testPulseHigh && o.test then 0xFFF
  else if o.pw.toNat ≤ o.sawtooth.toNat then 0xFFF else 0x000

/-- The noise output, eight taps of the register in bits 11:4 (R115). -/
def noiseOutput (sr : BitVec 23) : BitVec 12 :=
  sr.extractLsb' 20 1 ++ sr.extractLsb' 18 1 ++ sr.extractLsb' 14 1 ++ sr.extractLsb' 11 1 ++
    sr.extractLsb' 9 1 ++ sr.extractLsb' 5 1 ++ sr.extractLsb' 2 1 ++ sr.extractLsb' 0 1 ++ 0#4

/-- A combined waveform, the table ANDed with the selected pulse and noise (R116). -/
def Osc.combined (P : Params) (c : Chip) (o : Osc) (srcMsb : Bool) : BitVec 12 :=
  P.combinedWave c o.sel o.sawtooth (o.ring && srcMsb)
    &&& (if o.sel.getLsbD 2 then o.pulse P else 0xFFF)
    &&& (if o.sel.getLsbD 3 then noiseOutput o.sr else 0xFFF)

/-- The output multiplexer (R118, R119). -/
def Osc.output (P : Params) (c : Chip) (o : Osc) (srcMsb : Bool) : BitVec 12 :=
  if o.sel = 0x0 then o.floatVal
  else if o.sel = 0x1 then o.triangle srcMsb
  else if o.sel = 0x2 then o.sawtooth
  else if o.sel = 0x4 then o.pulse P
  else if o.sel = 0x8 then noiseOutput o.sr
  else o.combined P c srcMsb

/-- `output(v)` in a set of oscillators, the ring source being the sync source (R118, 44_voice_sync
R225). -/
def oscOutput (P : Params) (c : Chip) (osc : Triple Osc) (v : VoiceId) : BitVec 12 :=
  (osc.get v).output P c ((osc.get (src v)).acc.getLsbD 23)

/-! ### The oscillator half of a CONTROL write -/

/-- The test bit's edges (R122). -/
def Osc.testEdge (P : Params) (c : Chip) (o : Osc) (oldTest newTest : Bool) : Osc :=
  if risingEdge oldTest newTest then
    { o with acc := 0
             sr := match P.testEdgeSr with
               | .keep => o.sr
               | .clear => 0
             srResetCnt := P.shiftResetCycles c }
  else if fallingEdge oldTest newTest then
    { o with srResetCnt := 0
             sr := if P.testFallShift then o.sr.extractLsb' 0 22 ++ BitVec.ofBool (!o.sr.getLsbD 17)
                   else o.sr }
  else o

/-- Entering and leaving the floating output (R121). -/
def Osc.floatEntry (P : Params) (c : Chip) (o : Osc) (oldSel newSel : BitVec 4) (oldOut : BitVec 12) :
    Osc :=
  if oldSel ≠ 0 ∧ newSel = 0 then { o with floatVal := oldOut, floatCnt := P.floatTtl c }
  else if newSel ≠ 0 then { o with floatCnt := 0 }
  else o

/-- The oscillator half of `writeControl`, in the order of R129; `oldOut` is the output before the
write. -/
def Osc.writeControl (P : Params) (c : Chip) (o : Osc) (oldOut : BitVec 12) (d : Byte) : Osc :=
  let o1 := { o with sel := hiNibble d, test := ctlTest d, ring := ctlRing d, sync := ctlSync d }
  Osc.floatEntry P c (Osc.testEdge P c o1 o.test (ctlTest d)) o.sel (hiNibble d) oldOut

end Sys2Proof.Machine
end

