-- ==== Sys2Proof/Machine/Voice.lean ====
section
/-!
DEFINITION. The amplitude modulator, the sync ring's hard sync, and one emulated cycle of the three voices
(44_voice_sync, 45_chip R248).
-/

namespace Sys2Proof.Machine

/-- `voiceOut` from an oscillator output and an envelope counter (44_voice_sync R220). -/
def voiceOut (P : Params) (c : Chip) (out : BitVec 12) (cnt : Byte) : Except Fault Int := do
  let wave ← checked P .r220 (P.waveDac c out)
  let zero ← checked P .r220 (P.waveZero c)
  let centred ← checked P .r220 (wave - zero)
  let gain ← checked P .r220 (P.envDac c cnt)
  let product ← checked P .r220 (centred * gain)
  let dc ← checked P .r220 (P.voiceDc c)
  checked P .r220 (product + dc)

/-- `voiceOut(v)` of a set of voices (44_voice_sync R220). -/
def voiceOutOf (P : Params) (c : Chip) (osc : Triple Osc) (env : Triple Env) (v : VoiceId) :
    Except Fault Int :=
  voiceOut P c (oscOutput P c osc v) (env.get v).cnt

/-- `doSync(v)`, from the flags of this cycle's adds (44_voice_sync R223, R224). -/
def doSync (P : Params) (osc : Triple Osc) (v : VoiceId) : Bool :=
  (osc.get v).sync && (osc.get (src v)).msbRising &&
    !(P.syncException && (osc.get (src v)).sync && (osc.get (src (src v))).msbRising)

/-- The oscillator of voice `v` after the sync step; every decision is taken before any is applied
(44_voice_sync R224). -/
def syncedOsc (P : Params) (osc : Triple Osc) (v : VoiceId) : Osc :=
  if doSync P osc v then { osc.get v with acc := 0 } else osc.get v

/-- `syncStep` (44_voice_sync R224). -/
def syncStep (P : Params) (osc : Triple Osc) : Triple Osc :=
  ⟨syncedOsc P osc .v0, syncedOsc P osc .v1, syncedOsc P osc .v2⟩

/-- One emulated cycle: oscillators, then sync, then envelopes (45_chip R248). -/
def State.cycle (P : Params) (s : State) : State :=
  s.setVoices (syncStep P (s.osc.map (Osc.cycle P s.chip))) (s.env.map (Env.cycle P))

/-- `n` emulated cycles (40_oscillator R100, 41_envelope R159, 44_voice_sync R227). -/
def State.cycles (P : Params) : Nat → State → State
  | 0, s => s
  | n + 1, s => State.cycles P n (s.cycle P)

end Sys2Proof.Machine
end

