-- ==== Sys2Proof/Machine/Chip.lean ====
section
/-!
DEFINITION. The chip-level operations (45_chip): register write and its dispatch, the write pipeline
(20_memory R66), register read, advance, reset, chip type, configuration and sample output.
-/

namespace Sys2Proof.Machine

/-! ### Register write -/

/-- The seven registers of a voice, in offset order (20_memory R61). -/
inductive VoiceReg where
  | freqLo
  | freqHi
  | pwLo
  | pwHi
  | control
  | attackDecay
  | sustainRelease
  deriving DecidableEq, Repr

/-- The four registers of the filter (20_memory R61). -/
inductive FilterReg where
  | fcLo
  | fcHi
  | resFilt
  | modeVol
  deriving DecidableEq, Repr

/-- What an offset of the register space is for a write (20_memory R61, R62). -/
inductive Target where
  | voice (v : VoiceId) (r : VoiceReg)
  | filter (r : FilterReg)
  | unmapped
  deriving DecidableEq, Repr

/-- The register of a voice at `A mod 7` (45_chip R244). -/
def voiceRegOf : Nat → VoiceReg
  | 0 => .freqLo
  | 1 => .freqHi
  | 2 => .pwLo
  | 3 => .pwHi
  | 4 => .control
  | 5 => .attackDecay
  | _ => .sustainRelease

/-- The voice at `A div 7` (45_chip R244). -/
def voiceIdOf : Nat → VoiceId
  | 0 => .v0
  | 1 => .v1
  | _ => .v2

/-- The register map for writes (20_memory R61, 45_chip R244). -/
def targetOf (a : Addr) : Target :=
  if a.toNat < 0x15 then .voice (voiceIdOf (a.toNat / 7)) (voiceRegOf (a.toNat % 7))
  else if a = 0x15 then .filter .fcLo
  else if a = 0x16 then .filter .fcHi
  else if a = 0x17 then .filter .resFilt
  else if a = 0x18 then .filter .modeVol
  else .unmapped

/-- `writeControl`: both halves of a CONTROL write, the old output taken first (40_oscillator R129). -/
def State.writeControl (P : Params) (s : State) (v : VoiceId) (d : Byte) : State :=
  s.setVoices
    (s.osc.set v ((s.osc.get v).writeControl P s.chip (oscOutput P s.chip s.osc v) d))
    (s.env.set v ((s.env.get v).gateWrite P (ctlGate d)))

/-- The write of one voice register (40_oscillator R125..R129, 41_envelope R160, R161). -/
def State.writeVoice (P : Params) (s : State) (v : VoiceId) (r : VoiceReg) (d : Byte) : State :=
  match r with
  | .freqLo => s.setOsc v { s.osc.get v with freq := withFreqLo (s.osc.get v).freq d }
  | .freqHi => s.setOsc v { s.osc.get v with freq := withFreqHi (s.osc.get v).freq d }
  | .pwLo => s.setOsc v { s.osc.get v with pw := withPwLo (s.osc.get v).pw d }
  | .pwHi => s.setOsc v { s.osc.get v with pw := withPwHi (s.osc.get v).pw d }
  | .control => s.writeControl P v d
  | .attackDecay => s.setEnv v ((s.env.get v).writeAttackDecay P d)
  | .sustainRelease => s.setEnv v ((s.env.get v).writeSustainRelease P d)

/-- The write of one filter register (42_filter R200..R203). -/
def State.writeFilter (s : State) (r : FilterReg) (d : Byte) : State :=
  match r with
  | .fcLo => s.setFlt (s.flt.writeFcLo d)
  | .fcHi => s.setFlt (s.flt.writeFcHi d)
  | .resFilt => s.setFlt (s.flt.writeResFilt d)
  | .modeVol => s.setFlt (s.flt.writeModeVol d)

/-- `dispatch` (45_chip R244). -/
def State.dispatch (P : Params) (s : State) (t : Target) (d : Byte) : State :=
  match t with
  | .voice v r => s.writeVoice P v r d
  | .filter r => s.writeFilter r d
  | .unmapped => s

/-- `apply`: the immediate effect of a register write (45_chip R241, R242). -/
def State.apply (P : Params) (s : State) (a : Addr) (d : Byte) : State :=
  (s.storeShadow a d).dispatch P (targetOf a) d

/-- Applies a held write, if there is one, and empties the pipeline (20_memory R66). -/
def State.flush (P : Params) (s : State) : State :=
  match s.pending with
  | some w => (s.apply P w.addr w.data).setPending none
  | none => s

/-- `issue`: a host write on MOS8580 (20_memory R66). -/
def State.issue (P : Params) (s : State) (a : Addr) (d : Byte) : State :=
  (s.flush P).setPending (some ⟨a, d⟩)

/-- `write` for an address of the register space (45_chip R240). -/
def State.writeInRange (P : Params) (s : State) (a : Addr) (d : Byte) : State :=
  match s.chip with
  | .mos6581 => s.apply P a d
  | .mos8580 => s.issue P a d

/-- `write` for any 8-bit address: one above 31 is ignored (45_chip R240, R243). -/
def State.write (P : Params) (s : State) (a : Byte) (d : Byte) : State :=
  if 31 < a.toNat then s else s.writeInRange P (a.setWidth 5) d

/-! ### Register read -/

/-- `read`: the byte a read of the register space returns (45_chip R246). -/
def State.readValue (P : Params) (s : State) (a : Addr) : Byte :=
  if a = 0x1B then (oscOutput P s.chip s.osc .v2).extractLsb' 4 8
  else if a = 0x1C then s.env.v2.cnt
  else match P.readOther with
    | .shadow => s.readShadow a.toNat
    | .lastBus => s.lastBus

/-- READ of any 8-bit address: one above 31 is refused (45_chip R246, R247). -/
def State.readOp (P : Params) (s : State) (a : Byte) : State :=
  if 31 < a.toNat then s.refuse (.readOutOfRange a.toNat)
  else s.setResult (.byte (s.readValue P (a.setWidth 5)))

/-! ### Advance -/

/-- `advanceCore`: `n` cycles, then the filter, then the external filter (45_chip R249). -/
def State.advanceCore (P : Params) (n : Nat) (s : State) : Except Fault State := do
  let s1 := s.cycles P n
  let v0 ← voiceOutOf P s1.chip s1.osc s1.env .v0
  let v1 ← voiceOutOf P s1.chip s1.osc s1.env .v1
  let v2 ← voiceOutOf P s1.chip s1.osc s1.env .v2
  let flt ← filterAdvance P s1.chip s1.cfg n v0 v1 v2 s1.flt
  let vin ← filterOutput P s1.chip s1.cfg flt
  let ext ← extAdvance P s1.chip s1.cfg n vin s1.ext
  pure ((s1.setFlt flt).setExt ext)

/-- `advance` with its overflow fault (45_chip R249, 20_memory R66). -/
def State.advanceChecked (P : Params) (n : Nat) (s : State) : Except Fault State :=
  if n = 0 then .ok s
  else match s.pending with
    | none => s.advanceCore P n
    | some w => do
      let s1 ← s.advanceCore P 1
      let s2 := (s1.apply P w.addr w.data).setPending none
      if n = 1 then pure s2 else s2.advanceCore P (n - 1)

/-- ADVANCE: on an overflow only the fault mark changes (45_chip R249, 60_exceptions R283). -/
def State.advanceOp (P : Params) (n : Nat) (s : State) : State := s.orRaise (s.advanceChecked P n)

/-! ### Reset, chip type, configuration -/

/-- RESET: configuration, chip type and the model-only marks stay (45_chip R250, 70_reset R300). -/
def State.resetOp (P : Params) (s : State) : State :=
  { s with osc := ⟨Osc.atReset P, Osc.atReset P, Osc.atReset P⟩
           env := ⟨Env.atReset P, Env.atReset P, Env.atReset P⟩
           flt := Filter.atReset
           ext := ExtFilter.atReset
           shadow := []
           lastBus := 0
           pending := none }

/-- SET_CHIP_TYPE: flushes the held write under the old type, then switches (45_chip R251). -/
def State.setChipTypeOp (P : Params) (s : State) (c : Chip) : State := (s.flush P).setChip c

/-- SET_FILTER_ENABLE (45_chip R257). -/
def State.setFilterEnableOp (s : State) (e : Bool) : State := s.setCfg { s.cfg with filterEnabled := e }

/-- SET_EXT_ENABLE (45_chip R258). -/
def State.setExtEnableOp (s : State) (e : Bool) : State := s.setCfg { s.cfg with extEnabled := e }

/-- SET_EXT_INPUT (45_chip R259). -/
def State.setExtInputOp (s : State) (x : Int) : State := s.setCfg { s.cfg with extIn := x }

/-! ### Sample output -/

/-- The clamp of a `b`-bit sample to [-2^(b-1), 2^(b-1) - 1] (45_chip R262). -/
def clampSample (b : Nat) (x : Int) : Int := max (-(2 ^ (b - 1) : Int)) (min ((2 ^ (b - 1) : Int) - 1) x)

/-- `audioOutput` for a legal width, the quotient truncated toward zero (45_chip R262). -/
def audioSample (P : Params) (vo : Int) (b : Nat) : Except Fault Int := do
  let q ← checked P .r262 (vo.tdiv (P.outDiv b))
  pure (clampSample b q)

/-- AUDIO_OUTPUT: a width outside 1..32 is refused (45_chip R262). -/
def State.audioOutputOp (P : Params) (s : State) (b : Nat) : State :=
  if b < 1 ∨ 32 < b then s.refuse (.badOutputWidth b)
  else s.orRaise (do
    let x ← audioSample P s.ext.vo b
    pure (s.setResult (.sample x)))

end Sys2Proof.Machine
end

