-- ==== Sys2Proof/Machine/HostControl.lean ====
section
/-!
DEFINITION. Meanings of ADVANCE, RESET, the chip type, the configuration setters and the sample output (45_chip
R249..R262).
-/

namespace Sys2Proof.Machine

/-- ADVANCE (45_chip R249). -/
def execAdvance (n : Nat) (s : State) : Host.Outcome State Fault Refusal :=
  afterOp s (s.advanceOp params n)

/-- RESET (45_chip R250). -/
def execReset (s : State) : Host.Outcome State Fault Refusal :=
  afterOp s (s.resetOp params)

/-- SET_CHIP_TYPE (45_chip R251). -/
def execSetChipType (c : Chip) (s : State) : Host.Outcome State Fault Refusal :=
  afterOp s (s.setChipTypeOp params c)

/-- SET_FILTER_ENABLE (45_chip R257). -/
def execSetFilterEnable (e : Bool) (s : State) : Host.Outcome State Fault Refusal :=
  afterOp s (s.setFilterEnableOp e)

/-- SET_EXT_ENABLE (45_chip R258). -/
def execSetExtEnable (e : Bool) (s : State) : Host.Outcome State Fault Refusal :=
  afterOp s (s.setExtEnableOp e)

/-- SET_EXT_INPUT (45_chip R259). -/
def execSetExtInput (x : Int) (s : State) : Host.Outcome State Fault Refusal :=
  afterOp s (s.setExtInputOp x)

/-- AUDIO_OUTPUT (45_chip R262). -/
def execAudioOutput (b : Nat) (s : State) : Host.Outcome State Fault Refusal :=
  afterOp s (s.audioOutputOp params b)

end Sys2Proof.Machine
end

