-- ==== Sys2Proof/Machine/ReadRegister.lean ====
section
/-!
DEFINITION. Meanings of the register reads: the shadow reads, the taps OSC3 and ENV3 (45_chip R246), and the
refused reads of out-of-range addresses (45_chip R247).
-/

namespace Sys2Proof.Machine

/-- READ_0x00 (45_chip R246). -/
def execRead00 (s : State) : Host.Outcome State Fault Refusal :=
  afterOp s (s.readOp params 0x00)

/-- READ_0x01 (45_chip R246). -/
def execRead01 (s : State) : Host.Outcome State Fault Refusal :=
  afterOp s (s.readOp params 0x01)

/-- READ_0x02 (45_chip R246). -/
def execRead02 (s : State) : Host.Outcome State Fault Refusal :=
  afterOp s (s.readOp params 0x02)

/-- READ_0x03 (45_chip R246). -/
def execRead03 (s : State) : Host.Outcome State Fault Refusal :=
  afterOp s (s.readOp params 0x03)

/-- READ_0x04 (45_chip R246). -/
def execRead04 (s : State) : Host.Outcome State Fault Refusal :=
  afterOp s (s.readOp params 0x04)

/-- READ_0x05 (45_chip R246). -/
def execRead05 (s : State) : Host.Outcome State Fault Refusal :=
  afterOp s (s.readOp params 0x05)

/-- READ_0x06 (45_chip R246). -/
def execRead06 (s : State) : Host.Outcome State Fault Refusal :=
  afterOp s (s.readOp params 0x06)

/-- READ_0x07 (45_chip R246). -/
def execRead07 (s : State) : Host.Outcome State Fault Refusal :=
  afterOp s (s.readOp params 0x07)

/-- READ_0x08 (45_chip R246). -/
def execRead08 (s : State) : Host.Outcome State Fault Refusal :=
  afterOp s (s.readOp params 0x08)

/-- READ_0x09 (45_chip R246). -/
def execRead09 (s : State) : Host.Outcome State Fault Refusal :=
  afterOp s (s.readOp params 0x09)

/-- READ_0x0A (45_chip R246). -/
def execRead0A (s : State) : Host.Outcome State Fault Refusal :=
  afterOp s (s.readOp params 0x0A)

/-- READ_0x0B (45_chip R246). -/
def execRead0B (s : State) : Host.Outcome State Fault Refusal :=
  afterOp s (s.readOp params 0x0B)

/-- READ_0x0C (45_chip R246). -/
def execRead0C (s : State) : Host.Outcome State Fault Refusal :=
  afterOp s (s.readOp params 0x0C)

/-- READ_0x0D (45_chip R246). -/
def execRead0D (s : State) : Host.Outcome State Fault Refusal :=
  afterOp s (s.readOp params 0x0D)

/-- READ_0x0E (45_chip R246). -/
def execRead0E (s : State) : Host.Outcome State Fault Refusal :=
  afterOp s (s.readOp params 0x0E)

/-- READ_0x0F (45_chip R246). -/
def execRead0F (s : State) : Host.Outcome State Fault Refusal :=
  afterOp s (s.readOp params 0x0F)

/-- READ_0x10 (45_chip R246). -/
def execRead10 (s : State) : Host.Outcome State Fault Refusal :=
  afterOp s (s.readOp params 0x10)

/-- READ_0x11 (45_chip R246). -/
def execRead11 (s : State) : Host.Outcome State Fault Refusal :=
  afterOp s (s.readOp params 0x11)

/-- READ_0x12 (45_chip R246). -/
def execRead12 (s : State) : Host.Outcome State Fault Refusal :=
  afterOp s (s.readOp params 0x12)

/-- READ_0x13 (45_chip R246). -/
def execRead13 (s : State) : Host.Outcome State Fault Refusal :=
  afterOp s (s.readOp params 0x13)

/-- READ_0x14 (45_chip R246). -/
def execRead14 (s : State) : Host.Outcome State Fault Refusal :=
  afterOp s (s.readOp params 0x14)

/-- READ_0x15 (45_chip R246). -/
def execRead15 (s : State) : Host.Outcome State Fault Refusal :=
  afterOp s (s.readOp params 0x15)

/-- READ_0x16 (45_chip R246). -/
def execRead16 (s : State) : Host.Outcome State Fault Refusal :=
  afterOp s (s.readOp params 0x16)

/-- READ_0x17 (45_chip R246). -/
def execRead17 (s : State) : Host.Outcome State Fault Refusal :=
  afterOp s (s.readOp params 0x17)

/-- READ_0x18 (45_chip R246). -/
def execRead18 (s : State) : Host.Outcome State Fault Refusal :=
  afterOp s (s.readOp params 0x18)

/-- READ_0x19 (45_chip R246). -/
def execRead19 (s : State) : Host.Outcome State Fault Refusal :=
  afterOp s (s.readOp params 0x19)

/-- READ_0x1A (45_chip R246). -/
def execRead1A (s : State) : Host.Outcome State Fault Refusal :=
  afterOp s (s.readOp params 0x1A)

/-- READ_OSC3 (45_chip R246). -/
def execReadOsc3 (s : State) : Host.Outcome State Fault Refusal :=
  afterOp s (s.readOp params 0x1B)

/-- READ_ENV3 (45_chip R246). -/
def execReadEnv3 (s : State) : Host.Outcome State Fault Refusal :=
  afterOp s (s.readOp params 0x1C)

/-- READ_0x1D (45_chip R246). -/
def execRead1D (s : State) : Host.Outcome State Fault Refusal :=
  afterOp s (s.readOp params 0x1D)

/-- READ_0x1E (45_chip R246). -/
def execRead1E (s : State) : Host.Outcome State Fault Refusal :=
  afterOp s (s.readOp params 0x1E)

/-- READ_0x1F (45_chip R246). -/
def execRead1F (s : State) : Host.Outcome State Fault Refusal :=
  afterOp s (s.readOp params 0x1F)

/-- READ_OUT_OF_RANGE_0x20-0x3F (45_chip R247). -/
def execReadOutOfRange20 (a : Byte) (s : State) : Host.Outcome State Fault Refusal :=
  afterOp s (s.readOp params a)

/-- READ_OUT_OF_RANGE_0x40-0x7F (45_chip R247). -/
def execReadOutOfRange40 (a : Byte) (s : State) : Host.Outcome State Fault Refusal :=
  afterOp s (s.readOp params a)

/-- READ_OUT_OF_RANGE_0x80-0xFF (45_chip R247). -/
def execReadOutOfRange80 (a : Byte) (s : State) : Host.Outcome State Fault Refusal :=
  afterOp s (s.readOp params a)

end Sys2Proof.Machine
end

