-- ==== Sys2Proof/Machine/WriteEnvelope.lean ====
section
/-!
DEFINITION. Meanings of the envelope register writes ATTACK_DECAY and SUSTAIN_RELEASE of the three voices
(41_envelope R160, R161), through the write of 45_chip R240.
-/

namespace Sys2Proof.Machine

/-- WRITE_V0.AD (41_envelope R160). -/
def execWriteV0Ad (d : Byte) (s : State) : Host.Outcome State Fault Refusal :=
  afterOp s (s.write params 0x05 d)

/-- WRITE_V0.SR (41_envelope R161). -/
def execWriteV0Sr (d : Byte) (s : State) : Host.Outcome State Fault Refusal :=
  afterOp s (s.write params 0x06 d)

/-- WRITE_V1.AD (41_envelope R160). -/
def execWriteV1Ad (d : Byte) (s : State) : Host.Outcome State Fault Refusal :=
  afterOp s (s.write params 0x0C d)

/-- WRITE_V1.SR (41_envelope R161). -/
def execWriteV1Sr (d : Byte) (s : State) : Host.Outcome State Fault Refusal :=
  afterOp s (s.write params 0x0D d)

/-- WRITE_V2.AD (41_envelope R160). -/
def execWriteV2Ad (d : Byte) (s : State) : Host.Outcome State Fault Refusal :=
  afterOp s (s.write params 0x13 d)

/-- WRITE_V2.SR (41_envelope R161). -/
def execWriteV2Sr (d : Byte) (s : State) : Host.Outcome State Fault Refusal :=
  afterOp s (s.write params 0x14 d)

end Sys2Proof.Machine
end

