-- ==== Sys2Proof/Machine/WriteFilter.lean ====
section
/-!
DEFINITION. Meanings of the filter register writes (42_filter R200..R203), through the write of 45_chip R240.
-/

namespace Sys2Proof.Machine

/-- WRITE_FC_LO (42_filter R200). -/
def execWriteFcLo (d : Byte) (s : State) : Host.Outcome State Fault Refusal :=
  afterOp s (s.write params 0x15 d)

/-- WRITE_FC_HI (42_filter R201). -/
def execWriteFcHi (d : Byte) (s : State) : Host.Outcome State Fault Refusal :=
  afterOp s (s.write params 0x16 d)

/-- WRITE_RES_FILT (42_filter R202). -/
def execWriteResFilt (d : Byte) (s : State) : Host.Outcome State Fault Refusal :=
  afterOp s (s.write params 0x17 d)

/-- WRITE_MODE_VOL (42_filter R203). -/
def execWriteModeVol (d : Byte) (s : State) : Host.Outcome State Fault Refusal :=
  afterOp s (s.write params 0x18 d)

end Sys2Proof.Machine
end

