-- ==== Sys2Proof/Machine/WriteOscillator.lean ====
section
/-!
DEFINITION. Meanings of the oscillator register writes FREQ_LO, FREQ_HI, PW_LO, PW_HI and CONTROL of the three
voices (40_oscillator R125..R129), through the write of 45_chip R240.
-/

namespace Sys2Proof.Machine

/-- WRITE_V0.FREQ_LO (40_oscillator R125). -/
def execWriteV0FreqLo (d : Byte) (s : State) : Host.Outcome State Fault Refusal :=
  afterOp s (s.write params 0x00 d)

/-- WRITE_V0.FREQ_HI (40_oscillator R126). -/
def execWriteV0FreqHi (d : Byte) (s : State) : Host.Outcome State Fault Refusal :=
  afterOp s (s.write params 0x01 d)

/-- WRITE_V0.PW_LO (40_oscillator R127). -/
def execWriteV0PwLo (d : Byte) (s : State) : Host.Outcome State Fault Refusal :=
  afterOp s (s.write params 0x02 d)

/-- WRITE_V0.PW_HI (40_oscillator R128). -/
def execWriteV0PwHi (d : Byte) (s : State) : Host.Outcome State Fault Refusal :=
  afterOp s (s.write params 0x03 d)

/-- WRITE_V0.CONTROL (40_oscillator R129). -/
def execWriteV0Control (d : Byte) (s : State) : Host.Outcome State Fault Refusal :=
  afterOp s (s.write params 0x04 d)

/-- WRITE_V1.FREQ_LO (40_oscillator R125). -/
def execWriteV1FreqLo (d : Byte) (s : State) : Host.Outcome State Fault Refusal :=
  afterOp s (s.write params 0x07 d)

/-- WRITE_V1.FREQ_HI (40_oscillator R126). -/
def execWriteV1FreqHi (d : Byte) (s : State) : Host.Outcome State Fault Refusal :=
  afterOp s (s.write params 0x08 d)

/-- WRITE_V1.PW_LO (40_oscillator R127). -/
def execWriteV1PwLo (d : Byte) (s : State) : Host.Outcome State Fault Refusal :=
  afterOp s (s.write params 0x09 d)

/-- WRITE_V1.PW_HI (40_oscillator R128). -/
def execWriteV1PwHi (d : Byte) (s : State) : Host.Outcome State Fault Refusal :=
  afterOp s (s.write params 0x0A d)

/-- WRITE_V1.CONTROL (40_oscillator R129). -/
def execWriteV1Control (d : Byte) (s : State) : Host.Outcome State Fault Refusal :=
  afterOp s (s.write params 0x0B d)

/-- WRITE_V2.FREQ_LO (40_oscillator R125). -/
def execWriteV2FreqLo (d : Byte) (s : State) : Host.Outcome State Fault Refusal :=
  afterOp s (s.write params 0x0E d)

/-- WRITE_V2.FREQ_HI (40_oscillator R126). -/
def execWriteV2FreqHi (d : Byte) (s : State) : Host.Outcome State Fault Refusal :=
  afterOp s (s.write params 0x0F d)

/-- WRITE_V2.PW_LO (40_oscillator R127). -/
def execWriteV2PwLo (d : Byte) (s : State) : Host.Outcome State Fault Refusal :=
  afterOp s (s.write params 0x10 d)

/-- WRITE_V2.PW_HI (40_oscillator R128). -/
def execWriteV2PwHi (d : Byte) (s : State) : Host.Outcome State Fault Refusal :=
  afterOp s (s.write params 0x11 d)

/-- WRITE_V2.CONTROL (40_oscillator R129). -/
def execWriteV2Control (d : Byte) (s : State) : Host.Outcome State Fault Refusal :=
  afterOp s (s.write params 0x12 d)

end Sys2Proof.Machine
end

