-- ==== Sys2Proof/Machine/WriteOther.lean ====
section
/-!
DEFINITION. Meanings of the writes to unmapped offsets (45_chip R242) and of the ignored writes to out-of-range
addresses (45_chip R243).
-/

namespace Sys2Proof.Machine

/-- WRITE_UNMAPPED_0x19 (45_chip R242). -/
def execWriteUnmapped19 (d : Byte) (s : State) : Host.Outcome State Fault Refusal :=
  afterOp s (s.write params 0x19 d)

/-- WRITE_UNMAPPED_0x1A (45_chip R242). -/
def execWriteUnmapped1A (d : Byte) (s : State) : Host.Outcome State Fault Refusal :=
  afterOp s (s.write params 0x1A d)

/-- WRITE_UNMAPPED_0x1B (45_chip R242). -/
def execWriteUnmapped1B (d : Byte) (s : State) : Host.Outcome State Fault Refusal :=
  afterOp s (s.write params 0x1B d)

/-- WRITE_UNMAPPED_0x1C (45_chip R242). -/
def execWriteUnmapped1C (d : Byte) (s : State) : Host.Outcome State Fault Refusal :=
  afterOp s (s.write params 0x1C d)

/-- WRITE_UNMAPPED_0x1D (45_chip R242). -/
def execWriteUnmapped1D (d : Byte) (s : State) : Host.Outcome State Fault Refusal :=
  afterOp s (s.write params 0x1D d)

/-- WRITE_UNMAPPED_0x1E (45_chip R242). -/
def execWriteUnmapped1E (d : Byte) (s : State) : Host.Outcome State Fault Refusal :=
  afterOp s (s.write params 0x1E d)

/-- WRITE_UNMAPPED_0x1F (45_chip R242). -/
def execWriteUnmapped1F (d : Byte) (s : State) : Host.Outcome State Fault Refusal :=
  afterOp s (s.write params 0x1F d)

/-- WRITE_OUT_OF_RANGE_0x20-0x3F (45_chip R243). -/
def execWriteOutOfRange20 (a : Byte) (d : Byte) (s : State) : Host.Outcome State Fault Refusal :=
  afterOp s (s.write params a d)

/-- WRITE_OUT_OF_RANGE_0x40-0x7F (45_chip R243). -/
def execWriteOutOfRange40 (a : Byte) (d : Byte) (s : State) : Host.Outcome State Fault Refusal :=
  afterOp s (s.write params a d)

/-- WRITE_OUT_OF_RANGE_0x80-0xFF (45_chip R243). -/
def execWriteOutOfRange80 (a : Byte) (d : Byte) (s : State) : Host.Outcome State Fault Refusal :=
  afterOp s (s.write params a d)

end Sys2Proof.Machine
end

