-- ==== Sys2Proof/Machine/Dispatch.lean ====
section
/-!
DEFINITION. exec: one arm per constructor, each one call of that instruction's meaning.
-/

namespace Sys2Proof.Machine

def exec (i : Instr) (s : State) : Host.Outcome State Fault Refusal :=
  match i with
  | .writeV0FreqLo d => Sys2Proof.Machine.execWriteV0FreqLo d s
  | .writeV0FreqHi d => Sys2Proof.Machine.execWriteV0FreqHi d s
  | .writeV0PwLo d => Sys2Proof.Machine.execWriteV0PwLo d s
  | .writeV0PwHi d => Sys2Proof.Machine.execWriteV0PwHi d s
  | .writeV0Control d => Sys2Proof.Machine.execWriteV0Control d s
  | .writeV0Ad d => Sys2Proof.Machine.execWriteV0Ad d s
  | .writeV0Sr d => Sys2Proof.Machine.execWriteV0Sr d s
  | .writeV1FreqLo d => Sys2Proof.Machine.execWriteV1FreqLo d s
  | .writeV1FreqHi d => Sys2Proof.Machine.execWriteV1FreqHi d s
  | .writeV1PwLo d => Sys2Proof.Machine.execWriteV1PwLo d s
  | .writeV1PwHi d => Sys2Proof.Machine.execWriteV1PwHi d s
  | .writeV1Control d => Sys2Proof.Machine.execWriteV1Control d s
  | .writeV1Ad d => Sys2Proof.Machine.execWriteV1Ad d s
  | .writeV1Sr d => Sys2Proof.Machine.execWriteV1Sr d s
  | .writeV2FreqLo d => Sys2Proof.Machine.execWriteV2FreqLo d s
  | .writeV2FreqHi d => Sys2Proof.Machine.execWriteV2FreqHi d s
  | .writeV2PwLo d => Sys2Proof.Machine.execWriteV2PwLo d s
  | .writeV2PwHi d => Sys2Proof.Machine.execWriteV2PwHi d s
  | .writeV2Control d => Sys2Proof.Machine.execWriteV2Control d s
  | .writeV2Ad d => Sys2Proof.Machine.execWriteV2Ad d s
  | .writeV2Sr d => Sys2Proof.Machine.execWriteV2Sr d s
  | .writeFcLo d => Sys2Proof.Machine.execWriteFcLo d s
  | .writeFcHi d => Sys2Proof.Machine.execWriteFcHi d s
  | .writeResFilt d => Sys2Proof.Machine.execWriteResFilt d s
  | .writeModeVol d => Sys2Proof.Machine.execWriteModeVol d s
  | .writeUnmapped19 d => Sys2Proof.Machine.execWriteUnmapped19 d s
  | .writeUnmapped1A d => Sys2Proof.Machine.execWriteUnmapped1A d s
  | .writeUnmapped1B d => Sys2Proof.Machine.execWriteUnmapped1B d s
  | .writeUnmapped1C d => Sys2Proof.Machine.execWriteUnmapped1C d s
  | .writeUnmapped1D d => Sys2Proof.Machine.execWriteUnmapped1D d s
  | .writeUnmapped1E d => Sys2Proof.Machine.execWriteUnmapped1E d s
  | .writeUnmapped1F d => Sys2Proof.Machine.execWriteUnmapped1F d s
  | .writeOutOfRange20 a d => Sys2Proof.Machine.execWriteOutOfRange20 a d s
  | .writeOutOfRange40 a d => Sys2Proof.Machine.execWriteOutOfRange40 a d s
  | .writeOutOfRange80 a d => Sys2Proof.Machine.execWriteOutOfRange80 a d s
  | .read00 => Sys2Proof.Machine.execRead00 s
  | .read01 => Sys2Proof.Machine.execRead01 s
  | .read02 => Sys2Proof.Machine.execRead02 s
  | .read03 => Sys2Proof.Machine.execRead03 s
  | .read04 => Sys2Proof.Machine.execRead04 s
  | .read05 => Sys2Proof.Machine.execRead05 s
  | .read06 => Sys2Proof.Machine.execRead06 s
  | .read07 => Sys2Proof.Machine.execRead07 s
  | .read08 => Sys2Proof.Machine.execRead08 s
  | .read09 => Sys2Proof.Machine.execRead09 s
  | .read0A => Sys2Proof.Machine.execRead0A s
  | .read0B => Sys2Proof.Machine.execRead0B s
  | .read0C => Sys2Proof.Machine.execRead0C s
  | .read0D => Sys2Proof.Machine.execRead0D s
  | .read0E => Sys2Proof.Machine.execRead0E s
  | .read0F => Sys2Proof.Machine.execRead0F s
  | .read10 => Sys2Proof.Machine.execRead10 s
  | .read11 => Sys2Proof.Machine.execRead11 s
  | .read12 => Sys2Proof.Machine.execRead12 s
  | .read13 => Sys2Proof.Machine.execRead13 s
  | .read14 => Sys2Proof.Machine.execRead14 s
  | .read15 => Sys2Proof.Machine.execRead15 s
  | .read16 => Sys2Proof.Machine.execRead16 s
  | .read17 => Sys2Proof.Machine.execRead17 s
  | .read18 => Sys2Proof.Machine.execRead18 s
  | .read19 => Sys2Proof.Machine.execRead19 s
  | .read1A => Sys2Proof.Machine.execRead1A s
  | .readOsc3 => Sys2Proof.Machine.execReadOsc3 s
  | .readEnv3 => Sys2Proof.Machine.execReadEnv3 s
  | .read1D => Sys2Proof.Machine.execRead1D s
  | .read1E => Sys2Proof.Machine.execRead1E s
  | .read1F => Sys2Proof.Machine.execRead1F s
  | .readOutOfRange20 a => Sys2Proof.Machine.execReadOutOfRange20 a s
  | .readOutOfRange40 a => Sys2Proof.Machine.execReadOutOfRange40 a s
  | .readOutOfRange80 a => Sys2Proof.Machine.execReadOutOfRange80 a s
  | .advance n => Sys2Proof.Machine.execAdvance n s
  | .reset => Sys2Proof.Machine.execReset s
  | .setChipType c => Sys2Proof.Machine.execSetChipType c s
  | .setFilterEnable e => Sys2Proof.Machine.execSetFilterEnable e s
  | .setExtEnable e => Sys2Proof.Machine.execSetExtEnable e s
  | .setExtInput x => Sys2Proof.Machine.execSetExtInput x s
  | .audioOutput b => Sys2Proof.Machine.execAudioOutput b s

end Sys2Proof.Machine
end

