-- ==== Sys2Proof/Machine/Fetch.lean ====
section
/-!
DEFINITION. Taking the next host operation word from the stream (30_encoding R93, 20_memory R69), and what a
word that spells no operation does (30_encoding R89, 60_exceptions R284).
-/

namespace Sys2Proof.Machine

/-- The state with the next word taken: the stream is shorter by one and the index of the next operation
advances by one (10_state R20). -/
def State.takeWord (s : State) : State := { s with stream := s.stream.tail, pc := s.pc + 1 }

/-- The refusal reason of an invalid word (60_exceptions R284). -/
def refusalOf : DecodeError → Refusal
  | .invalidKind k => .invalidKind k
  | .reservedBits w => .reservedBits w

/-- An invalid word: the block refuses it (30_encoding R89, 60_exceptions R284). -/
def refuseWord (e : DecodeError) (s : State) : Host.Outcome State Fault Refusal :=
  afterOp s (s.refuse (refusalOf e))

/-- The state with a word as the next host operation. -/
def State.placeWord (s : State) (w : Word) : State := { s with stream := w :: s.stream.tail }

/-- The word whose bits are `w` below `nbits` and zero above. -/
def tableWord (nbits w : Nat) : Word := BitVec.ofNat 32 (w % 2 ^ nbits)

end Sys2Proof.Machine
end

