-- ==== Sys2Proof/Machine/Step.lean ====
section
/-!
DEFINITION. One step: the next word of the host's stream is taken and its operation runs; with no word
waiting the block is idle and nothing changes (60_exceptions R293, 70_reset R301).
-/

namespace Sys2Proof.Machine

/-- One host operation (20_memory R69). -/
def step (s : State) : Host.Outcome State Fault Refusal :=
  match s.stream with
  | [] => .next s
  | w :: _ =>
    match decode w with
    | .ok i => exec i s.takeWord
    | .error e => refuseWord e s.takeWord

/-- The state whose next host operation is the word with bits `w` (30_encoding R93). -/
def State.withFetchWord (s : State) (nbits w : Nat) : State := s.placeWord (tableWord nbits w)

end Sys2Proof.Machine
end

