-- ==== Sys2Proof/Safety.lean ====
section
/-!
DEFINITION. The terms claims use: a live block, the invariant of a safe run, and the register writes and reads
named by voice, register and offset.
-/

namespace Sys2Proof.Machine

/-! ### The invariant -/

/-- No fault or refusal mark is set (10_state R48). -/
abbrev State.live (s : State) : Prop := s.fault = none ∧ s.refused = none

/-- Under the test bit the accumulator is 0 (10_state R23, 40_oscillator R104); the shift-register countdown
runs only under the test bit (R110, R122), the floating countdown only with selector 0 (R117, R121). -/
abbrev Osc.Inv (o : Osc) : Prop :=
  (o.test = true → o.acc = 0) ∧ (o.test = false → o.srResetCnt = 0) ∧ (o.sel ≠ 0 → o.floatCnt = 0)

/-- The exponential counter is below its period (10_state R26); a held counter is 0 and not in ATTACK
(10_state R26); the rate period is that of the state's nibble (41_envelope R146); a pending gate event goes
where the gate bit says, and with none pending the gate bit and the state agree (41_envelope R143, R147); in
STEP mode the exponential period is that of the counter (41_envelope R152). -/
abbrev Env.Inv (P : Params) (e : Env) : Prop :=
  e.expCnt < e.expPeriod.ticks ∧
  (e.holdZero = true → e.cnt = 0 ∧ e.state ≠ .attack) ∧
  e.ratePeriod = e.periodFor P e.state ∧
  (e.pipeCnt ≠ 0 → e.pipeNext = if e.gate then .attack else .release) ∧
  (e.pipeCnt = 0 → (e.gate = true ↔ e.state ≠ .release)) ∧
  (P.expPeriodMode = .step → e.expPeriod = expPeriodOf e.cnt)

/-- The invariant of the block: every voice's, the canonical register space (20_memory R60), no held write
on MOS6581 (20_memory R66), and every signed quantity in range (60_exceptions R283, 45_chip R259). -/
abbrev State.Inv (s : State) : Prop :=
  (∀ v, (s.osc.get v).Inv) ∧ (∀ v, (s.env.get v).Inv params) ∧
  s.shadow.wf = true ∧ (s.chip = .mos6581 → s.pending = none) ∧
  (fits params s.flt.vhp = true ∧ fits params s.flt.vbp = true ∧ fits params s.flt.vlp = true ∧
    fits params s.flt.vnf = true) ∧
  (fits params s.ext.vlp = true ∧ fits params s.ext.vhp = true ∧ fits params s.ext.vo = true) ∧
  (-134217728 ≤ s.cfg.extIn ∧ s.cfg.extIn < 134217728)

/-! ### Instructions by register -/

/-- The number of a voice (00_scope R15). -/
def VoiceId.toNat : VoiceId → Nat
  | .v0 => 0
  | .v1 => 1
  | .v2 => 2

/-- The place of a register in its voice's seven offsets (20_memory R61). -/
def VoiceReg.toNat : VoiceReg → Nat
  | .freqLo => 0
  | .freqHi => 1
  | .pwLo => 2
  | .pwHi => 3
  | .control => 4
  | .attackDecay => 5
  | .sustainRelease => 6

/-- The offset of a voice register, 7v + 0..6 (20_memory R61). -/
def voiceAddr (v : VoiceId) (r : VoiceReg) : Addr := BitVec.ofNat 5 (7 * v.toNat + r.toNat)

/-- The offset of a filter register (20_memory R61). -/
def filterAddr : FilterReg → Addr
  | .fcLo => 0x15
  | .fcHi => 0x16
  | .resFilt => 0x17
  | .modeVol => 0x18

/-- The write of a voice register. -/
def voiceWrite : VoiceId → VoiceReg → Byte → Instr
  | .v0, .freqLo, d => .writeV0FreqLo d
  | .v0, .freqHi, d => .writeV0FreqHi d
  | .v0, .pwLo, d => .writeV0PwLo d
  | .v0, .pwHi, d => .writeV0PwHi d
  | .v0, .control, d => .writeV0Control d
  | .v0, .attackDecay, d => .writeV0Ad d
  | .v0, .sustainRelease, d => .writeV0Sr d
  | .v1, .freqLo, d => .writeV1FreqLo d
  | .v1, .freqHi, d => .writeV1FreqHi d
  | .v1, .pwLo, d => .writeV1PwLo d
  | .v1, .pwHi, d => .writeV1PwHi d
  | .v1, .control, d => .writeV1Control d
  | .v1, .attackDecay, d => .writeV1Ad d
  | .v1, .sustainRelease, d => .writeV1Sr d
  | .v2, .freqLo, d => .writeV2FreqLo d
  | .v2, .freqHi, d => .writeV2FreqHi d
  | .v2, .pwLo, d => .writeV2PwLo d
  | .v2, .pwHi, d => .writeV2PwHi d
  | .v2, .control, d => .writeV2Control d
  | .v2, .attackDecay, d => .writeV2Ad d
  | .v2, .sustainRelease, d => .writeV2Sr d

/-- The write of a filter register. -/
def filterWrite : FilterReg → Byte → Instr
  | .fcLo, d => .writeFcLo d
  | .fcHi, d => .writeFcHi d
  | .resFilt, d => .writeResFilt d
  | .modeVol, d => .writeModeVol d

/-- The seven unmapped offsets, 0x19 to 0x1F (20_memory R62). -/
inductive UnmappedOffset where
  | x19
  | x1A
  | x1B
  | x1C
  | x1D
  | x1E
  | x1F
  deriving DecidableEq, Repr

/-- The offset itself. -/
def UnmappedOffset.addr : UnmappedOffset → Addr
  | .x19 => 0x19
  | .x1A => 0x1A
  | .x1B => 0x1B
  | .x1C => 0x1C
  | .x1D => 0x1D
  | .x1E => 0x1E
  | .x1F => 0x1F

/-- The write to an unmapped offset. -/
def unmappedWrite : UnmappedOffset → Byte → Instr
  | .x19, d => .writeUnmapped19 d
  | .x1A, d => .writeUnmapped1A d
  | .x1B, d => .writeUnmapped1B d
  | .x1C, d => .writeUnmapped1C d
  | .x1D, d => .writeUnmapped1D d
  | .x1E, d => .writeUnmapped1E d
  | .x1F, d => .writeUnmapped1F d

/-- The WRITE of an offset 0..31: the 25 register writes and the 7 unmapped ones (30_encoding R91). -/
def writeAt (a : Addr) (d : Byte) : Instr := decodeWrite (a.setWidth 8) d

/-- The READ of an offset 0..31: READ_0x00 .. READ_0x1F, of which READ_OSC3 and READ_ENV3 are 0x1B and 0x1C
(30_encoding R91). -/
def readAt (a : Addr) : Instr := decodeRead (a.setWidth 8)

end Sys2Proof.Machine
end

