-- ==== Sys2Proof/Certificates/Slice0/Obligations.lean ====
section
/-!
DEFINITION. The statements for the provers. A statement about a unit's own function holds for every parameter
record P (00_scope R11); one about exec or step is about the machine's record params.
-/

open Sys2Proof Sys2Proof.Machine

/-! ### Encoding and the step -/

/-- Decoding the word of a well-formed instruction gives it back, for all 77 rows (30_encoding R82..R91). -/
def Obligations.DecodeOfEncodeIsIdentity : Prop :=
  ∀ i : Instr, i.wellFormed = true → decode (encode i) = .ok i

/-- A word that decodes is the word of the well-formed instruction it decodes to, so each word has one meaning
and every word that decodes is one row's (30_encoding R96). -/
def Obligations.DecodedWordIsItsEncoding : Prop :=
  ∀ (w : Word) (i : Instr), decode w = .ok i → i.wellFormed = true ∧ encode i = w

/-- KIND 0x9..0xF is invalid by its kind; a smaller KIND is invalid, by its reserved bits, when they are not all
zero, and spells an operation otherwise (30_encoding R89, R96, with the reserved bits of R82). -/
def Obligations.InvalidWordsAreNamed : Prop :=
  ∀ w : Word,
    (9 ≤ kindField w → decode w = .error (.invalidKind (kindField w))) ∧
    (kindField w < 9 →
      let reserved : Prop :=
        (kindField w = 0 ∧ w.extractLsb' 16 12 ≠ 0) ∨
        (kindField w = 1 ∧ (w.extractLsb' 16 12 ≠ 0 ∨ w.extractLsb' 0 8 ≠ 0)) ∨
        (kindField w = 3 ∧ w.extractLsb' 0 28 ≠ 0) ∨
        ((kindField w = 4 ∨ kindField w = 5 ∨ kindField w = 6) ∧ w.extractLsb' 1 27 ≠ 0) ∨
        (kindField w = 8 ∧ w.extractLsb' 6 22 ≠ 0)
      (decode w = .error (.reservedBits w) ↔ reserved) ∧ (¬ reserved → ∃ i : Instr, decode w = .ok i))

/-- Words written out in 95_test_vectors 2.9 and 30_encoding R94. -/
def Obligations.SpecExampleWordsDecode : Prop :=
  decode 0x00000421 = .ok (.writeV0Control 0x21) ∧
  decode 0x000018FF = .ok (.writeModeVol 0xFF) ∧
  decode 0x00001F00 = .ok (.writeUnmapped1F 0x00) ∧
  decode 0x0000FF00 = .ok (.writeOutOfRange80 0xFF 0x00) ∧
  decode 0x10001B00 = .ok .readOsc3 ∧
  decode 0x10002000 = .ok (.readOutOfRange20 0x20) ∧
  decode 0x200003E8 = .ok (.advance 1000) ∧
  decode 0x30000000 = .ok .reset ∧
  decode 0x40000001 = .ok (.setChipType .mos8580) ∧
  decode 0x50000000 = .ok (.setFilterEnable false) ∧
  decode 0x60000001 = .ok (.setExtEnable true) ∧
  decode 0x7FFFFFFF = .ok (.setExtInput (-1)) ∧
  decode 0x78000000 = .ok (.setExtInput (-134217728)) ∧
  decode 0x80000010 = .ok (.audioOutput 16) ∧
  decode 0x00010421 = .error (.reservedBits 0x00010421) ∧
  decode 0x90000000 = .error (.invalidKind 9)

/-- The next word of the stream that decodes to an instruction runs as exec of it, after the word is taken and
the operation index moves on by one (20_memory R69, 10_state R20). -/
def Obligations.StepRunsTheDecodedOperation : Prop :=
  ∀ (s : State) (w : Word) (ws : List Word) (i : Instr), s.stream = w :: ws → decode w = .ok i →
    step s = exec i { s with stream := ws, pc := s.pc + 1 }

/-- With no operation waiting nothing changes (60_exceptions R293; the idle step is log entry 2). -/
def Obligations.IdleBlockDoesNotChange : Prop :=
  ∀ s : State, s.stream = [] → step s = .next s

/-- A word that spells no operation sets the refusal mark with its reason and changes nothing else of the block
(30_encoding R89, 60_exceptions R284). That the word is taken from the stream and the index moves on is the model's
choice, log entry 6. -/
def Obligations.InvalidWordIsRefused : Prop :=
  ∀ (s : State) (w : Word) (ws : List Word), s.live → s.stream = w :: ws →
    (∀ k, decode w = .error (.invalidKind k) →
      step s = .next { s with stream := ws, pc := s.pc + 1, refused := some (.invalidKind k) }) ∧
    (∀ x, decode w = .error (.reservedBits x) →
      step s = .next { s with stream := ws, pc := s.pc + 1, refused := some (.reservedBits x) })

/-- After a fault or a refusal every later operation leaves the state unchanged (60_exceptions R283, R284). That the
field result is unchanged too, so that a READ or AUDIO_OUTPUT returns no value, is the model's choice, log entry
33. -/
def Obligations.QuiescentBlockIgnoresEveryOperation : Prop :=
  ∀ (i : Instr) (s : State), ¬ s.live → exec i s = .next s

/-! ### Register writes -/

/-- WRITE FREQ_LO and FREQ_HI of each voice replace bits 7:0 and 15:8 of the frequency, the byte reaches the
shadow and the bus, and nothing else changes: the effect of `apply`, and on MOS6581 the next state
(40_oscillator R125, R126; 45_chip R240, R241). -/
def Obligations.FrequencyWritesReplaceOneHalf : Prop :=
  ∀ (v : VoiceId) (d : Byte) (s : State),
    let lo : State :=
      { s with shadow := s.shadow.write (7 * v.toNat) d, lastBus := d
               osc := s.osc.set v
                 { s.osc.get v with freq := (s.osc.get v).freq.extractLsb' 8 8 ++ d } }
    let hi : State :=
      { s with shadow := s.shadow.write (7 * v.toNat + 1) d, lastBus := d
               osc := s.osc.set v
                 { s.osc.get v with freq := d ++ (s.osc.get v).freq.extractLsb' 0 8 } }
    s.apply params (voiceAddr v .freqLo) d = lo ∧ s.apply params (voiceAddr v .freqHi) d = hi ∧
    (s.live → s.chip = .mos6581 →
      exec (voiceWrite v .freqLo d) s = .next lo ∧ exec (voiceWrite v .freqHi d) s = .next hi)

/-- WRITE PW_LO and PW_HI of each voice replace bits 7:0 and 11:8 of the pulse width, D[7:4] of PW_HI reaching
the shadow only (40_oscillator R127, R128; 45_chip R240, R241). -/
def Obligations.PulseWidthWritesReplaceOnePart : Prop :=
  ∀ (v : VoiceId) (d : Byte) (s : State),
    let lo : State :=
      { s with shadow := s.shadow.write (7 * v.toNat + 2) d, lastBus := d
               osc := s.osc.set v
                 { s.osc.get v with pw := (s.osc.get v).pw.extractLsb' 8 4 ++ d } }
    let hi : State :=
      { s with shadow := s.shadow.write (7 * v.toNat + 3) d, lastBus := d
               osc := s.osc.set v
                 { s.osc.get v with pw := d.extractLsb' 0 4 ++ (s.osc.get v).pw.extractLsb' 0 8 } }
    s.apply params (voiceAddr v .pwLo) d = lo ∧ s.apply params (voiceAddr v .pwHi) d = hi ∧
    (s.live → s.chip = .mos6581 →
      exec (voiceWrite v .pwLo d) s = .next lo ∧ exec (voiceWrite v .pwHi d) s = .next hi)

/-- WRITE CONTROL of each voice: the fields of both components, the test bit's edges, the floating output's
entry and exit with the output before the write, and the gate pipeline (40_oscillator R129, R121, R122;
41_envelope R147). -/
def Obligations.ControlWriteReachesBothComponents : Prop :=
  ∀ (v : VoiceId) (d : Byte) (s : State),
    let o := s.osc.get v
    let e := s.env.get v
    let sel : BitVec 4 := d.extractLsb' 4 4
    let rises := o.test = false ∧ d.getLsbD 3 = true
    let falls := o.test = true ∧ d.getLsbD 3 = false
    let enters := o.sel ≠ 0 ∧ sel = 0
    let gateOn := e.gate = false ∧ d.getLsbD 0 = true
    let gateOff := e.gate = true ∧ d.getLsbD 0 = false
    let o' : Osc :=
      { o with
        sel := sel
        test := d.getLsbD 3
        ring := d.getLsbD 2
        sync := d.getLsbD 1
        acc := if rises then 0 else o.acc
        sr := if rises then (if params.testEdgeSr = .clear then 0 else o.sr)
              else if falls then
                (if params.testFallShift then (o.sr <<< 1) ||| BitVec.setWidth 23 (BitVec.ofBool (!o.sr.getLsbD 17))
                 else o.sr)
              else o.sr
        srResetCnt := if rises then params.shiftResetCycles s.chip else if falls then 0 else o.srResetCnt
        floatVal := if enters then oscOutput params s.chip s.osc v else o.floatVal
        floatCnt := if enters then params.floatTtl s.chip else if sel ≠ 0 then 0 else o.floatCnt }
    let e' : Env :=
      { e with
        gate := d.getLsbD 0
        pipeNext := if gateOn then .attack else if gateOff then .release else e.pipeNext
        pipeCnt := if gateOn then params.gateOnDelay else if gateOff then params.gateOffDelay else e.pipeCnt }
    let t : State :=
      { s with shadow := s.shadow.write (7 * v.toNat + 4) d, lastBus := d
               osc := s.osc.set v o', env := s.env.set v e' }
    s.apply params (voiceAddr v .control) d = t ∧
    (s.live → s.chip = .mos6581 → exec (voiceWrite v .control d) s = .next t)

/-- WRITE ATTACK_DECAY and SUSTAIN_RELEASE of each voice set the nibbles and reselect the rate period when the
nibble is the current state's; the rate counter is not touched (41_envelope R160, R161). -/
def Obligations.EnvelopeWritesSetNibblesAndPeriod : Prop :=
  ∀ (v : VoiceId) (d : Byte) (s : State),
    let e := s.env.get v
    let ad : Env :=
      { e with attack := d.extractLsb' 4 4, decay := d.extractLsb' 0 4
               ratePeriod := if e.state = .attack then params.ratePeriod (d.extractLsb' 4 4)
                 else if e.state = .decaySustain then params.ratePeriod (d.extractLsb' 0 4) else e.ratePeriod }
    let sr : Env :=
      { e with sustain := d.extractLsb' 4 4, release := d.extractLsb' 0 4
               ratePeriod := if e.state = .release then params.ratePeriod (d.extractLsb' 0 4) else e.ratePeriod }
    let tad : State :=
      { s with shadow := s.shadow.write (7 * v.toNat + 5) d, lastBus := d, env := s.env.set v ad }
    let tsr : State :=
      { s with shadow := s.shadow.write (7 * v.toNat + 6) d, lastBus := d, env := s.env.set v sr }
    s.apply params (voiceAddr v .attackDecay) d = tad ∧ s.apply params (voiceAddr v .sustainRelease) d = tsr ∧
    (s.live → s.chip = .mos6581 →
      exec (voiceWrite v .attackDecay d) s = .next tad ∧ exec (voiceWrite v .sustainRelease d) s = .next tsr)

/-- The four filter register writes set their fields, keep the integrator state, and change nothing else
(42_filter R200, R201, R202, R203). -/
def Obligations.FilterWritesSetTheirFields : Prop :=
  ∀ (r : FilterReg) (d : Byte) (s : State),
    let f : Filter := match r with
      | .fcLo => { s.flt with fc := s.flt.fc.extractLsb' 3 8 ++ d.extractLsb' 0 3 }
      | .fcHi => { s.flt with fc := d ++ s.flt.fc.extractLsb' 0 3 }
      | .resFilt => { s.flt with res := d.extractLsb' 4 4, filt := d.extractLsb' 0 4 }
      | .modeVol =>
        { s.flt with vol := d.extractLsb' 0 4, mode := d.extractLsb' 4 3, voice3off := d.getLsbD 7 }
    let t : State := { s with shadow := s.shadow.write (filterAddr r).toNat d, lastBus := d, flt := f }
    s.apply params (filterAddr r) d = t ∧
    (s.live → s.chip = .mos6581 → exec (filterWrite r d) s = .next t)

/-- A write to an unmapped offset changes only its shadow byte and the bus byte (45_chip R242). -/
def Obligations.UnmappedWriteStoresTheShadowOnly : Prop :=
  ∀ (u : UnmappedOffset) (d : Byte) (s : State),
    let t : State := { s with shadow := s.shadow.write u.addr.toNat d, lastBus := d }
    s.apply params u.addr d = t ∧
    (s.live → s.chip = .mos6581 → exec (unmappedWrite u d) s = .next t)

/-- A write to an out-of-range address does nothing: it neither enters nor flushes the write pipeline
(45_chip R243). -/
def Obligations.OutOfRangeWriteIsIgnored : Prop :=
  ∀ (a d : Byte) (s : State), 32 ≤ a.toNat →
    exec (.writeOutOfRange20 a d) s = .next s ∧ exec (.writeOutOfRange40 a d) s = .next s ∧
    exec (.writeOutOfRange80 a d) s = .next s

/-- On MOS8580 a write of an offset 0..31 is held; a write already held is applied first, in the same instant
(20_memory R66, 45_chip R240). -/
def Obligations.WriteOnMos8580IsHeld : Prop :=
  ∀ (a : Addr) (d : Byte) (s : State), s.live → s.chip = .mos8580 →
    (s.pending = none → exec (writeAt a d) s = .next { s with pending := some ⟨a, d⟩ }) ∧
    (∀ w : HeldWrite, s.pending = some w →
      exec (writeAt a d) s = .next { s.apply params w.addr w.data with pending := some ⟨a, d⟩ })

/-- The frame of every write of an offset 0..31, on both chips: the filters' signed state, chip type,
configuration, marks, stream, index and result stay; every register-space byte but the stored one reads as
before, the stored one being the write's on MOS6581 and the held write's, if any, on MOS8580; and a voice that
the stored offset does not belong to stays (45_chip R240, R241, R244). The stored byte reads back: after `apply` at
any offset, and so after the write of a live block, in states whose register space is canonical, which the
invariant of Safety.lean says. -/
def Obligations.WriteFrame : Prop :=
  ∀ (a : Addr) (d : Byte) (s t : State), exec (writeAt a d) s = .next t →
    let stored : Option Addr := match s.chip with
      | .mos6581 => some a
      | .mos8580 => s.pending.map HeldWrite.addr
    (t.flt.vhp = s.flt.vhp ∧ t.flt.vbp = s.flt.vbp ∧ t.flt.vlp = s.flt.vlp ∧ t.flt.vnf = s.flt.vnf) ∧
    t.ext = s.ext ∧ t.chip = s.chip ∧ t.cfg = s.cfg ∧ t.fault = s.fault ∧ t.refused = s.refused ∧
    t.stream = s.stream ∧ t.pc = s.pc ∧ t.result = s.result ∧
    (∀ b : Nat, stored.map BitVec.toNat ≠ some b → t.readShadow b = s.readShadow b) ∧
    (∀ v : VoiceId, (∀ r : VoiceReg, stored ≠ some (voiceAddr v r)) →
      t.osc.get v = s.osc.get v ∧ t.env.get v = s.env.get v) ∧
    (s.shadow.wf = true →
      (s.apply params a d).readShadow a.toNat = d ∧
      (s.live → s.chip = .mos6581 → t.readShadow a.toNat = d) ∧
      (s.live → s.chip = .mos8580 → ∀ w : HeldWrite, s.pending = some w → t.readShadow w.addr.toNat = w.data))

/-! ### Register reads -/

/-- READ of an offset 0..31 returns OSC3 at 0x1B, ENV3 at 0x1C, and otherwise the shadow byte or the last bus
byte as READ_OTHER says; nothing of the block changes and no held write is flushed (45_chip R246). Keeping the byte
in the field result is the model's choice, log entry 4. -/
def Obligations.ReadReturnsTapOrStoredByte : Prop :=
  ∀ (a : Addr) (s : State), s.live →
    exec (readAt a) s = .next
      { s with result := some (.byte
          (if a = 0x1B then (oscOutput params s.chip s.osc .v2).extractLsb' 4 8
           else if a = 0x1C then (s.env.get .v2).cnt
           else if params.readOther = .shadow then s.readShadow a.toNat else s.lastBus)) }

/-- READ of an out-of-range address is refused: only the refusal mark changes (45_chip R247, 60_exceptions
R284). -/
def Obligations.OutOfRangeReadIsRefused : Prop :=
  ∀ (a : Byte) (s : State), s.live → 32 ≤ a.toNat →
    let t : State := { s with refused := some (.readOutOfRange a.toNat) }
    exec (.readOutOfRange20 a) s = .next t ∧ exec (.readOutOfRange40 a) s = .next t ∧
    exec (.readOutOfRange80 a) s = .next t

/-! ### Advance -/

/-- ADVANCE 0 has no effect; a held write stays held (45_chip R249). -/
def Obligations.AdvanceZeroHasNoEffect : Prop :=
  ∀ s : State, exec (.advance 0) s = .next s

/-- ADVANCE N with no held write: N cycles, then one filter advance with the voice outputs after them, then one
external-filter advance with the new filter output (45_chip R249). -/
def Obligations.AdvanceRunsCyclesThenFilters : Prop :=
  ∀ (n : Nat) (s : State) (x0 x1 x2 vin : Int) (f : Filter) (e : ExtFilter),
    s.live → s.pending = none → 1 ≤ n →
    let s1 := (State.cycle params)^[n] s
    voiceOutOf params s.chip s1.osc s1.env .v0 = .ok x0 →
    voiceOutOf params s.chip s1.osc s1.env .v1 = .ok x1 →
    voiceOutOf params s.chip s1.osc s1.env .v2 = .ok x2 →
    filterAdvance params s.chip s.cfg n x0 x1 x2 s.flt = .ok f →
    filterOutput params s.chip s.cfg f = .ok vin →
    extAdvance params s.chip s.cfg n vin s.ext = .ok e →
    exec (.advance n) s = .next { s1 with flt := f, ext := e }

/-- An overflow anywhere in ADVANCE sets the fault mark and discards every other change, the oscillators' and
envelopes' too (60_exceptions R283): with no held write (the filter's own arithmetic spelt out), in the first cycle
of an advance with a held write, and in the cycles after it, where the held write stays held as before. -/
def Obligations.OverflowDiscardsTheAdvance : Prop :=
  ∀ (n : Nat) (s : State) (f : Fault), s.live → 1 ≤ n →
    let discarded := exec (.advance n) s = .next { s with fault := some f }
    (s.pending = none → s.advanceCore params n = .error f → discarded) ∧
    (∀ x0 x1 x2 : Int, s.pending = none →
      let s1 := (State.cycle params)^[n] s
      voiceOutOf params s.chip s1.osc s1.env .v0 = .ok x0 →
      voiceOutOf params s.chip s1.osc s1.env .v1 = .ok x1 →
      voiceOutOf params s.chip s1.osc s1.env .v2 = .ok x2 →
      filterAdvance params s.chip s.cfg n x0 x1 x2 s.flt = .error f → discarded) ∧
    (∀ w : HeldWrite, s.pending = some w → s.advanceCore params 1 = .error f → discarded) ∧
    (∀ (w : HeldWrite) (s1 : State), s.pending = some w → 2 ≤ n → s.advanceCore params 1 = .ok s1 →
      ({ s1.apply params w.addr w.data with pending := none } : State).advanceCore params (n - 1) = .error f →
      discarded)

/-- ADVANCE with a held write: one full cycle with the filters advanced by 1, then the write is applied and the
pipeline is empty, then the remaining cycles (20_memory R66, 45_chip R249). -/
def Obligations.HeldWriteTakesEffectAfterOneCycle : Prop :=
  ∀ (s s1 : State) (w : HeldWrite), s.live → s.pending = some w → s.advanceCore params 1 = .ok s1 →
    let s2 : State := { s1.apply params w.addr w.data with pending := none }
    exec (.advance 1) s = .next s2 ∧
    (∀ (n : Nat) (t : State), 1 ≤ n → s2.advanceCore params n = .ok t → exec (.advance (n + 1)) s = .next t)

/-- From a state whose filters are empty, whose routing and volume are 0 and whose external input is in its
range, ADVANCE completes for every count: the voices run N cycles, the filter holds only the bypass sum of the
shifted inputs, voice 2 counted as 0 when muted, and the external filter stays empty (45_chip R249, 42_filter
R186..R191, 43_external_filter R212, 44_voice_sync R220). The ranges of the open numbers, log entry 9, and
VOICE_DC = 0, ARITH_WIDTH = 32 and W0_MAX_DT = 26353, log entry 10, are the model's choice; with VOICE_DC = 0 the
formula has no term for it. -/
def Obligations.QuietAdvanceCompletes : Prop :=
  ∀ (n : Nat) (s : State), s.live → s.pending = none → 1 ≤ n →
    s.cfg.filterEnabled = true → s.cfg.extEnabled = true →
    -134217728 ≤ s.cfg.extIn → s.cfg.extIn < 134217728 →
    s.flt.vhp = 0 → s.flt.vbp = 0 → s.flt.vlp = 0 → s.flt.filt = 0 → s.flt.vol = 0 →
    s.ext = ⟨0, 0, 0⟩ →
    let s1 := (State.cycle params)^[n] s
    let x := fun v : VoiceId =>
      (params.waveDac s.chip (oscOutput params s.chip s1.osc v) - params.waveZero s.chip) *
        params.envDac s.chip (s1.env.get v).cnt
    let sum := (x .v0 >>> params.filterInShift) + (x .v1 >>> params.filterInShift) +
      (if s.flt.voice3off then 0 else x .v2 >>> params.filterInShift) + (s.cfg.extIn >>> params.filterInShift)
    exec (.advance n) s = .next { s1 with flt := { s.flt with vnf := sum } }

/-- The frame of ADVANCE, whatever it computes: chip type, configuration, refusal mark, stream, index and result
stay, and every register-space byte but the held write's reads as before; with no held write the register
fields of voices and filter, the shadow and the bus byte stay too (45_chip R249, R241). -/
def Obligations.AdvanceFrame : Prop :=
  ∀ (n : Nat) (s t : State), exec (.advance n) s = .next t →
    t.chip = s.chip ∧ t.cfg = s.cfg ∧ t.refused = s.refused ∧ t.stream = s.stream ∧ t.pc = s.pc ∧
    t.result = s.result ∧
    (∀ b : Nat, (s.pending.map HeldWrite.addr).map BitVec.toNat ≠ some b → t.readShadow b = s.readShadow b) ∧
    (s.pending = none →
      t.pending = none ∧ t.shadow = s.shadow ∧ t.lastBus = s.lastBus ∧
      (t.flt.fc = s.flt.fc ∧ t.flt.res = s.flt.res ∧ t.flt.filt = s.flt.filt ∧ t.flt.mode = s.flt.mode ∧
        t.flt.voice3off = s.flt.voice3off ∧ t.flt.vol = s.flt.vol) ∧
      ∀ v : VoiceId,
        ((t.osc.get v).freq = (s.osc.get v).freq ∧ (t.osc.get v).pw = (s.osc.get v).pw ∧
          (t.osc.get v).sel = (s.osc.get v).sel ∧ (t.osc.get v).test = (s.osc.get v).test ∧
          (t.osc.get v).ring = (s.osc.get v).ring ∧ (t.osc.get v).sync = (s.osc.get v).sync) ∧
        ((t.env.get v).attack = (s.env.get v).attack ∧ (t.env.get v).decay = (s.env.get v).decay ∧
          (t.env.get v).sustain = (s.env.get v).sustain ∧ (t.env.get v).release = (s.env.get v).release ∧
          (t.env.get v).gate = (s.env.get v).gate))

/-- The voices after ADVANCE m and ADVANCE n are those after ADVANCE (m + n), held write or not, when none of
the three overflows (45_chip R249, 70_reset R312). -/
def Obligations.VoicesDoNotDependOnTheSplit : Prop :=
  ∀ (m n : Nat) (s s1 s2 t : State),
    exec (.advance m) s = .next s1 → exec (.advance n) s1 = .next s2 → exec (.advance (m + n)) s = .next t →
    s2.live → t.live → t.osc = s2.osc ∧ t.env = s2.env

/-- One cycle: every oscillator's own cycle, then the sync step on the results, and every envelope's own cycle;
nothing else changes (45_chip R248). -/
def Obligations.CycleRunsOscillatorsSyncEnvelopes : Prop :=
  ∀ (P : Params) (s : State),
    State.cycle P s =
      { s with
        osc := syncStep P ⟨s.osc.v0.cycle P s.chip, s.osc.v1.cycle P s.chip, s.osc.v2.cycle P s.chip⟩
        env := ⟨s.env.v0.cycle P, s.env.v1.cycle P, s.env.v2.cycle P⟩ }

/-! ### Oscillator -/

/-- One cycle of an oscillator: with the test bit clear the accumulator adds the frequency modulo 2^24, the
rising flag is bit 23 going from 0 to 1 and a bit-19 event shifts the noise register; with it set the
accumulator stays, the flag is false and only the shift-register countdown runs; the floating countdown runs
either way (40_oscillator R101, R102, R108, R110, R117). -/
def Obligations.OscillatorCycle : Prop :=
  ∀ (P : Params) (c : Chip) (o : Osc),
    let next : BitVec 24 := BitVec.ofNat 24 (o.acc.toNat + o.freq.toNat)
    let event : Bool :=
      if P.noiseClockEdge = .toggle then o.acc.getLsbD 19 != next.getLsbD 19
      else !o.acc.getLsbD 19 && next.getLsbD 19
    let faded : BitVec 23 := o.sr ||| (o.sr >>> 1) ||| 0x400000
    let expires := o.srResetCnt = 1
    o.cycle P c =
      { o with
        acc := if o.test then o.acc else next
        msbRising := if o.test then false else (!o.acc.getLsbD 23 && next.getLsbD 23)
        sr := if o.test then
                (if expires then (if P.srResetMode = .jump then 0x7FFFFF else faded) else o.sr)
              else if event then BitVec.ofNat 23 (o.sr.toNat * 2 + (o.sr.getLsbD 22 ^^ o.sr.getLsbD 17).toNat)
              else o.sr
        srResetCnt :=
          if o.test then
            (if expires ∧ P.srResetMode = .bitfade ∧ faded ≠ 0x7FFFFF then P.shiftResetCycles c
             else o.srResetCnt - 1)
          else o.srResetCnt
        floatCnt := if o.sel = 0 then o.floatCnt - 1 else o.floatCnt
        floatVal := if o.sel = 0 ∧ o.floatCnt = 1 then 0 else o.floatVal }

/-- With JUMP, a test bit that stays set for the whole armed countdown leaves the register all ones, and not
before (40_oscillator R110). -/
def Obligations.HeldTestBitResetsTheNoiseRegister : Prop :=
  ∀ (P : Params) (c : Chip) (o : Osc) (n : Nat), P.srResetMode = .jump → o.test = true → 1 ≤ o.srResetCnt →
    ((Osc.cycle P c)^[n] o).srResetCnt = o.srResetCnt - n ∧
    ((Osc.cycle P c)^[n] o).sr = if o.srResetCnt ≤ n then 0x7FFFFF else o.sr

/-- An all-zero noise register stays zero while the test bit is clear (40_oscillator R109, 70_reset R315). -/
def Obligations.ZeroNoiseRegisterLocksUp : Prop :=
  ∀ (P : Params) (c : Chip) (o : Osc) (n : Nat), o.test = false → o.sr = 0 →
    ((Osc.cycle P c)^[n] o).sr = 0

/-- A floating output holds its value until its countdown expires and reads 0 from then on (40_oscillator
R117, 70_reset R316). -/
def Obligations.FloatingOutputHoldsThenReadsZero : Prop :=
  ∀ (P : Params) (c : Chip) (o : Osc) (n : Nat), o.sel = 0 → 1 ≤ o.floatCnt →
    ((Osc.cycle P c)^[n] o).floatVal = if o.floatCnt ≤ n then 0 else o.floatVal

/-- With the test bit clear and no sync reset in any of N cycles, the accumulator after them is acc + N freq
modulo 2^24 (40_oscillator R103). -/
def Obligations.AccumulatorAfterCycles : Prop :=
  ∀ (P : Params) (s : State) (v : VoiceId) (n : Nat),
    (s.osc.get v).test = false →
    (∀ k, k < n → doSync P (((State.cycle P)^[k] s).osc.map (Osc.cycle P s.chip)) v = false) →
    ((((State.cycle P)^[n] s).osc.get v).acc).toNat =
      ((s.osc.get v).acc.toNat + n * (s.osc.get v).freq.toNat) % 2 ^ 24

/-- The four base waveforms (40_oscillator R112, R113, R114, R115). -/
def Obligations.BaseWaveforms : Prop :=
  ∀ (P : Params) (o : Osc) (srcMsb : Bool),
    ((o.acc.getLsbD 23 ^^ (o.ring && srcMsb)) = true →
      (o.triangle srcMsb).toNat = (2 ^ 24 - 1 - o.acc.toNat) / 2 ^ 11 % 2 ^ 12) ∧
    ((o.acc.getLsbD 23 ^^ (o.ring && srcMsb)) = false →
      (o.triangle srcMsb).toNat = o.acc.toNat / 2 ^ 11 % 2 ^ 12) ∧
    o.sawtooth.toNat = o.acc.toNat / 2 ^ 12 ∧
    (o.pulse P = if P.testPulseHigh = true ∧ o.test = true then 0xFFF
                 else if o.pw.toNat ≤ o.acc.toNat / 2 ^ 12 then 0xFFF else 0x000) ∧
    (noiseOutput o.sr).toNat =
      (o.sr.getLsbD 20).toNat * 2048 + (o.sr.getLsbD 18).toNat * 1024 + (o.sr.getLsbD 14).toNat * 512 +
      (o.sr.getLsbD 11).toNat * 256 + (o.sr.getLsbD 9).toNat * 128 + (o.sr.getLsbD 5).toNat * 64 +
      (o.sr.getLsbD 2).toNat * 32 + (o.sr.getLsbD 0).toNat * 16

/-- The output multiplexer and the combined waveforms, the ring source being the sync source (40_oscillator
R116, R118; 44_voice_sync R222, R225). -/
def Obligations.OutputMultiplexer : Prop :=
  ∀ (P : Params) (c : Chip) (osc : Triple Osc) (v : VoiceId),
    let o := osc.get v
    let srcMsb := (osc.get (match v with | .v0 => .v2 | .v1 => .v0 | .v2 => .v1)).acc.getLsbD 23
    oscOutput P c osc v =
      match o.sel.toNat with
      | 0 => o.floatVal
      | 1 => o.triangle srcMsb
      | 2 => o.sawtooth
      | 4 => o.pulse P
      | 8 => noiseOutput o.sr
      | _ => P.combinedWave c o.sel o.sawtooth (o.ring && srcMsb) &&&
          (if o.sel.getLsbD 2 then o.pulse P else 0xFFF) &&&
          (if o.sel.getLsbD 3 then noiseOutput o.sr else 0xFFF)

/-! ### Voice and sync -/

/-- The sync step zeroes exactly the accumulators of the voices whose sync bit is set and whose source's flag
rose, less the exception when SYNC_EXCEPTION holds, all decided on the flags before it; nothing else changes
(44_voice_sync R222, R223, R224). -/
def Obligations.SyncStepZeroesSyncedVoices : Prop :=
  ∀ (P : Params) (osc : Triple Osc) (v : VoiceId),
    let source : VoiceId → VoiceId := fun u => match u with | .v0 => .v2 | .v1 => .v0 | .v2 => .v1
    let synced := (osc.get v).sync = true ∧ (osc.get (source v)).msbRising = true ∧
      ¬ (P.syncException = true ∧ (osc.get (source v)).sync = true ∧
          (osc.get (source (source v))).msbRising = true)
    (syncStep P osc).get v = { osc.get v with acc := if synced then 0 else (osc.get v).acc }

/-- A voice whose source has its test bit set is not synced in a cycle, whatever the rest (44_voice_sync
R226). -/
def Obligations.TestedSourceNeverSyncs : Prop :=
  ∀ (P : Params) (s : State) (v : VoiceId), (s.osc.get (src v)).test = true →
    ((State.cycle P s).osc.get v).acc = ((s.osc.get v).cycle P s.chip).acc

/-- The voice output is (WAVE_DAC - WAVE_ZERO) times ENV_DAC plus VOICE_DC, and never overflows on this machine
(44_voice_sync R220). That it never overflows rests on the model's choice: the ranges of the open numbers, log
entry 9, and ARITH_WIDTH = 32 and VOICE_DC = 0, log entry 10. -/
def Obligations.VoiceOutputFormula : Prop :=
  ∀ (c : Chip) (osc : Triple Osc) (env : Triple Env) (v : VoiceId),
    voiceOutOf params c osc env v = .ok
      ((params.waveDac c (oscOutput params c osc v) - params.waveZero c) * params.envDac c (env.get v).cnt +
        params.voiceDc c)

/-! ### Envelope -/

/-- The gate pipeline counts down at the start of the cycle and enters its state when it reaches 0
(41_envelope R148). -/
def Obligations.GatePipelineEntersItsState : Prop :=
  ∀ (P : Params) (e : Env),
    (e.pipeCnt = 0 → e.pipelineStep P = e) ∧
    (2 ≤ e.pipeCnt → e.pipelineStep P = { e with pipeCnt := e.pipeCnt - 1 }) ∧
    (e.pipeCnt = 1 → e.pipeNext = .attack →
      e.pipelineStep P =
        { e with pipeCnt := 0, state := .attack, holdZero := false, ratePeriod := P.ratePeriod e.attack }) ∧
    (e.pipeCnt = 1 → e.pipeNext = .release →
      e.pipelineStep P = { e with pipeCnt := 0, state := .release, ratePeriod := P.ratePeriod e.release })

/-- A whole cycle, gate event pending or not: the gate pipeline steps first, then the rate counter counts one, wraps
at 0x8000 to RATE_WRAP_TO, and is compared with the period after the pipeline step; a cycle in which it equals the
period is a tick that restarts it from 0 (41_envelope R148, R149, R157). -/
def Obligations.RateCounterTicksAtThePeriod : Prop :=
  ∀ (P : Params) (e : Env),
    let e1 := e.pipelineStep P
    let r : BitVec 15 :=
      if e1.rateCnt.toNat + 1 = 0x8000 then P.rateWrapTo.setWidth 15 else BitVec.ofNat 15 (e1.rateCnt.toNat + 1)
    (r ≠ e1.ratePeriod → e.cycle P = { e1 with rateCnt := r }) ∧
    (r = e1.ratePeriod → e.cycle P = Env.tick P { e1 with rateCnt := 0 })

/-- A tick in ATTACK steps at once: the counter rises by one and saturates at 0xFF, where DECAY_SUSTAIN begins
with the decay period; the exponential counter restarts, and the exponential period is updated on the new counter
exactly when the counter changed (41_envelope R150, R152, R153). -/
def Obligations.AttackTick : Prop :=
  ∀ (P : Params) (e : Env), e.state = .attack →
    let t := Env.tick P e
    t.cnt.toNat = min (e.cnt.toNat + 1) 0xFF ∧ t.expCnt = 0 ∧
    (e.cnt.toNat < 0xFE → t.state = .attack ∧ t.ratePeriod = e.ratePeriod) ∧
    (0xFE ≤ e.cnt.toNat → t.state = .decaySustain ∧ t.ratePeriod = P.ratePeriod e.decay) ∧
    t.expPeriod = (if e.cnt = 0xFF then e.expPeriod else (Env.expUpdate P { e with cnt := e.cnt + 1 }).expPeriod) ∧
    t.holdZero = e.holdZero ∧
    t.rateCnt = e.rateCnt ∧ t.attack = e.attack ∧ t.decay = e.decay ∧ t.sustain = e.sustain ∧
    t.release = e.release ∧ t.gate = e.gate ∧ t.pipeCnt = e.pipeCnt ∧ t.pipeNext = e.pipeNext

/-- A tick in DECAY_SUSTAIN or RELEASE steps only on every exp_period-th tick and not when held at zero; a step
falls by one, in DECAY_SUSTAIN only above the sustain level s * 0x11, in RELEASE only above 0, where it sets
hold-zero; the exponential period is updated on the new counter exactly when the counter changed; the state stays
(41_envelope R141, R150, R151, R152, R154, R155, R156). -/
def Obligations.DecayAndReleaseTick : Prop :=
  ∀ (P : Params) (e : Env), e.state ≠ .attack →
    let t := Env.tick P e
    let due := e.expCnt + 1 = e.expPeriod.ticks
    let floor : Nat := if e.state = .decaySustain then e.sustain.toNat * 0x11 else 0
    (¬ due → t = { e with expCnt := e.expCnt + 1 }) ∧
    (due → t.expCnt = 0) ∧
    (due → e.holdZero = true → t = { e with expCnt := 0 }) ∧
    (due → e.holdZero = false →
      t.cnt.toNat = (if floor < e.cnt.toNat then e.cnt.toNat - 1 else e.cnt.toNat) ∧
      t.holdZero = ((floor < e.cnt.toNat ∧ e.cnt.toNat = 1) ∨ (e.state = .release ∧ e.cnt = 0) : Bool) ∧
      t.expPeriod = (if floor < e.cnt.toNat then (Env.expUpdate P { e with cnt := e.cnt - 1 }).expPeriod
        else e.expPeriod)) ∧
    t.state = e.state ∧ t.ratePeriod = e.ratePeriod ∧ t.rateCnt = e.rateCnt ∧ t.attack = e.attack ∧
    t.decay = e.decay ∧ t.sustain = e.sustain ∧ t.release = e.release ∧ t.gate = e.gate ∧
    t.pipeCnt = e.pipeCnt ∧ t.pipeNext = e.pipeNext

/-- The exponential period after a change of the counter: the table of 41_envelope R142 in STEP mode; in LATCHED
mode a new period only at the seven thresholds (41_envelope R142, R152). -/
def Obligations.ExponentialPeriodFollowsTheCounter : Prop :=
  ∀ (P : Params) (e : Env),
    let t := e.expUpdate P
    let c := e.cnt.toNat
    (P.expPeriodMode = .step →
      t.expPeriod.ticks =
        if 0x5E ≤ c then 1 else if 0x37 ≤ c then 2 else if 0x1B ≤ c then 4 else if 0x0F ≤ c then 8
        else if 0x07 ≤ c then 16 else if 0x01 ≤ c then 30 else 1) ∧
    (P.expPeriodMode = .latched →
      t.expPeriod.ticks =
        if c = 0xFF then 1 else if c = 0x5D then 2 else if c = 0x36 then 4 else if c = 0x1A then 8
        else if c = 0x0E then 16 else if c = 0x06 then 30 else if c = 0x00 then 1 else e.expPeriod.ticks) ∧
    t.holdZero = (e.holdZero || decide (c = 0)) ∧
    t = { e with expPeriod := t.expPeriod, holdZero := t.holdZero }

/-- The wraparound delay: with the counter at c and the period at p, the next tick comes p - c cycles later when
c < p, and (0x8000 - c) + (p - RATE_WRAP_TO) cycles later otherwise; no cycle before it is a tick
(41_envelope R162). A gate event may be pending if it does not enter its state by then, which would reselect p. -/
def Obligations.RateWraparoundDelay : Prop :=
  ∀ (P : Params) (e : Env), e.ratePeriod ≠ 0 →
    let c := e.rateCnt.toNat
    let p := e.ratePeriod.toNat
    let delay := if c < p then p - c else (0x8000 - c) + (p - P.rateWrapTo.toNat)
    e.pipeCnt = 0 ∨ delay < e.pipeCnt →
    (∀ k, k < delay → ∃ r, (Env.cycle P)^[k] e = { e with rateCnt := r, pipeCnt := e.pipeCnt - k }) ∧
    (Env.cycle P)^[delay] e = Env.tick P { e with rateCnt := 0, pipeCnt := e.pipeCnt - delay }

/-- Once frozen at zero the counter stays 0 and held until ATTACK is entered again (10_state R26, 41_envelope
R143); states no run reaches are ruled out by the invariant. -/
def Obligations.FrozenEnvelopeStaysFrozen : Prop :=
  ∀ e : Env, e.Inv params → e.holdZero = true →
    (e.cycle params).state ≠ .attack → (e.cycle params).holdZero = true ∧ (e.cycle params).cnt = 0

/-- In DECAY_SUSTAIN a cycle never takes the counter below the sustain level, and never raises it (10_state R26,
41_envelope R154), unless a gate event enters its state in it. -/
def Obligations.DecayStopsAtTheSustainLevel : Prop :=
  ∀ (P : Params) (e : Env), e.state = .decaySustain → e.pipeCnt ≠ 1 →
    (e.cycle P).cnt.toNat ≤ e.cnt.toNat ∧
    (e.sustain.toNat * 0x11 ≤ e.cnt.toNat → e.sustain.toNat * 0x11 ≤ (e.cycle P).cnt.toNat)

/-! ### Filter and external filter -/

/-- Routing, when it does not overflow: each of the four inputs, shifted, goes to the filter input or to the
bypass sum as its routing bit says, and voice 2 counts as 0 when muted and not routed (42_filter R185, R186). -/
def Obligations.RoutingSums : Prop :=
  ∀ (P : Params) (f : Filter) (x0 x1 x2 x vi vnf : Int), route P f x0 x1 x2 x = .ok (vi, vnf) →
    let i0 := x0 >>> P.filterInShift
    let i1 := x1 >>> P.filterInShift
    let i2 := if f.voice3off = true ∧ f.filt.getLsbD 2 = false then 0 else x2 >>> P.filterInShift
    let ix := x >>> P.filterInShift
    let on := fun (k : Nat) (i : Int) => if f.filt.getLsbD k then i else 0
    let off := fun (k : Nat) (i : Int) => if f.filt.getLsbD k then 0 else i
    vi = on 0 i0 + on 1 i1 + on 2 i2 + on 3 ix ∧ vnf = off 0 i0 + off 1 i1 + off 2 i2 + off 3 ix

/-- The enabled filter advances by one step for one cycle, and otherwise by sub-steps of eight cycles with the
remainder last, on the routed input held constant. The one-cycle step and the sub-step of d cycles, when they do
not overflow: both increments from the state before the step, then the highpass from the new bandpass and lowpass;
the register fields and the bypass sum stay (42_filter R183, R187, R188, R189). The coefficient is W0_OF_HZ of the
cutoff frequency, whose value the spec prints at four frequencies (42_filter R182, R183; 95_test_vectors 2.6, P7). -/
def Obligations.FilterStepEquations : Prop :=
  ∀ (P : Params) (c : Chip) (vi : Int) (f g : Filter),
    let hp := fun g : Filter => ((g.vbp * q1024 f.res) >>> (10 : Nat)) - g.vlp - vi
    let w1 : Int := min (w0OfHz (P.cutoffHz c f.fc)) P.w0Max1
    let wdt : Int := min (w0OfHz (P.cutoffHz c f.fc)) P.w0MaxDt
    (svfStep1 P c vi f = .ok g →
      g = { f with vbp := f.vbp - ((w1 * f.vhp) >>> (20 : Nat)), vlp := f.vlp - ((w1 * f.vbp) >>> (20 : Nat))
                   vhp := hp g }) ∧
    (∀ d : Nat, svfSubStep P c vi f d = .ok g →
      g = { f with vbp := f.vbp - ((((wdt * d) >>> (6 : Nat)) * f.vhp) >>> (14 : Nat))
                   vlp := f.vlp - ((((wdt * d) >>> (6 : Nat)) * f.vbp) >>> (14 : Nat))
                   vhp := hp g }) ∧
    (∀ (cfg : Cfg) (n : Nat) (x0 x1 x2 vnf : Int), 1 ≤ n → cfg.filterEnabled = true →
      route P f x0 x1 x2 cfg.extIn = .ok (vi, vnf) →
      filterAdvance P c cfg n x0 x1 x2 f =
        if n = 1 then svfStep1 P c vi { f with vnf := vnf } else svfStepsDt P c n vi { f with vnf := vnf }) ∧
    (∀ n : Nat, 1 ≤ n → n ≤ 8 → svfStepsDt P c n vi f = svfSubStep P c vi f n) ∧
    (∀ n : Nat, 1 ≤ n → svfStepsDt P c (8 + n) vi f = svfSubStep P c vi f 8 >>= svfStepsDt P c n vi) ∧
    (w0OfHz 16000 = 105414 ∧ w0OfHz 4000 = 26353 ∧ w0OfHz 6174 = 40676 ∧ w0OfHz 12312 = 81116)

/-- Q1024 for res = 0..15 (42_filter R184). -/
def Obligations.ResonanceTable : Prop :=
  (List.range 16).map (fun n => q1024 (BitVec.ofNat 4 n)) =
    [1448, 1323, 1218, 1128, 1051, 984, 925, 872, 825, 783, 745, 710, 679, 650, 624, 599]

/-- With the filter disabled an advance puts every input in the bypass sum, the mute still deciding voice 2, and
clears the integrators, when it does not overflow (42_filter R187, R190). -/
def Obligations.DisabledFilterBypassesEverything : Prop :=
  ∀ (P : Params) (c : Chip) (cfg : Cfg) (n : Nat) (x0 x1 x2 : Int) (f g : Filter), 1 ≤ n →
    cfg.filterEnabled = false → filterAdvance P c cfg n x0 x1 x2 f = .ok g →
    g = { f with
          vhp := 0, vbp := 0, vlp := 0
          vnf := (x0 >>> P.filterInShift) + (x1 >>> P.filterInShift) +
            (if f.voice3off = true ∧ f.filt.getLsbD 2 = false then 0 else x2 >>> P.filterInShift) +
            (cfg.extIn >>> P.filterInShift) }

/-- The filter output, when it does not overflow: bypass sum, selected outputs if the filter is enabled, and the
DC offset, times the volume (42_filter R191). -/
def Obligations.FilterOutputFormula : Prop :=
  ∀ (P : Params) (c : Chip) (cfg : Cfg) (f : Filter) (x : Int), filterOutput P c cfg f = .ok x →
    let vf := (if f.mode.getLsbD 0 then f.vlp else 0) + (if f.mode.getLsbD 1 then f.vbp else 0) +
      (if f.mode.getLsbD 2 then f.vhp else 0)
    x = (f.vnf + (if cfg.filterEnabled then vf else 0) + P.filterDc c) * f.vol.toNat

/-- The external filter advances by sub-steps of eight cycles with the remainder last. When it does not overflow,
one sub-step of d cycles latches low-pass minus high-pass and then adds both increments taken from the state before
it; disabled, the output is the input less the DC offset and the state is cleared (43_external_filter R210, R212). -/
def Obligations.ExternalFilterEquations : Prop :=
  ∀ (P : Params) (c : Chip) (cfg : Cfg) (vin : Int) (e g : ExtFilter),
    (∀ d : Nat, extSubStep P vin e d = .ok g →
      g = { vo := e.vlp - e.vhp
            vlp := e.vlp + (((((P.w0lp : Int) * d) >>> (8 : Nat)) * (vin - e.vlp)) >>> (12 : Nat))
            vhp := e.vhp + (((P.w0hp : Int) * d * (e.vlp - e.vhp)) >>> (20 : Nat)) }) ∧
    (∀ n : Nat, 1 ≤ n → cfg.extEnabled = false → extAdvance P c cfg n vin e = .ok g →
      g = { vo := vin - P.extDc c, vlp := 0, vhp := 0 }) ∧
    (∀ n : Nat, 1 ≤ n → n ≤ 8 → cfg.extEnabled = true → extAdvance P c cfg n vin e = extSubStep P vin e n) ∧
    (∀ n : Nat, 1 ≤ n → cfg.extEnabled = true →
      extAdvance P c cfg (8 + n) vin e = extSubStep P vin e 8 >>= extAdvance P c cfg n vin) ∧
    extAdvance P c cfg 0 vin e = .ok e

/-- The filters' signed state changes only by ADVANCE, and by RESET, which clears it (42_filter R187). -/
def Obligations.OnlyAdvanceAndResetMoveTheFilters : Prop :=
  ∀ (i : Instr) (s t : State), exec i s = .next t → (∀ n, i ≠ .advance n) → i ≠ .reset →
    t.flt.vhp = s.flt.vhp ∧ t.flt.vbp = s.flt.vbp ∧ t.flt.vlp = s.flt.vlp ∧ t.flt.vnf = s.flt.vnf ∧
    t.ext = s.ext

/-! ### Reset, chip type, configuration, sample -/

/-- RESET gives every field of the block its reset value and leaves chip type, configuration, marks, stream,
index and result (45_chip R250, 10_state R24, R30, R31, R33, R34). The values of ACC_RESET, SR_RESET and
ENV_POWERUP are the model's, log entry 11; this statement does not rest on them. -/
def Obligations.ResetRestoresResetValues : Prop :=
  ∀ s : State, s.live →
    let o : Osc :=
      { acc := params.accReset, sr := params.srReset, freq := 0, pw := 0, sel := 0, test := false, ring := false
        sync := false, srResetCnt := 0, floatVal := 0, floatCnt := 0, msbRising := false }
    let e : Env :=
      { cnt := params.envPowerup, attack := 0, decay := 0, sustain := 0, release := 0, state := .release
        gate := false, rateCnt := 0, ratePeriod := params.ratePeriod 0, expCnt := 0
        expPeriod := if params.expPeriodMode = .step then expPeriodOf params.envPowerup else .p1
        holdZero := false, pipeCnt := 0, pipeNext := .release }
    let f : Filter :=
      { fc := 0, res := 0, filt := 0, mode := 0, voice3off := false, vol := 0, vhp := 0, vbp := 0, vlp := 0
        vnf := 0 }
    ∃ t : State, exec .reset s = .next t ∧
      (∀ v, t.osc.get v = o) ∧ (∀ v, t.env.get v = e) ∧ t.flt = f ∧ t.ext = ⟨0, 0, 0⟩ ∧
      (∀ a, t.readShadow a = 0) ∧ t.lastBus = 0 ∧ t.pending = none ∧
      t.chip = s.chip ∧ t.cfg = s.cfg ∧ t.fault = s.fault ∧ t.refused = s.refused ∧
      t.stream = s.stream ∧ t.pc = s.pc ∧ t.result = s.result

/-- SET_CHIP_TYPE applies a held write under the old type, empties the pipeline and switches; nothing else
changes (45_chip R251, 20_memory R66). -/
def Obligations.SetChipTypeFlushesThenSwitches : Prop :=
  ∀ (c : Chip) (s : State), s.live →
    (s.pending = none → exec (.setChipType c) s = .next { s with chip := c }) ∧
    (∀ w : HeldWrite, s.pending = some w →
      exec (.setChipType c) s = .next { s.apply params w.addr w.data with pending := none, chip := c })

/-- The three configuration setters set their field and nothing else, and do not touch the write pipeline
(45_chip R257, R258, R259). -/
def Obligations.ConfigurationSetters : Prop :=
  ∀ (b : Bool) (x : Int) (s : State), s.live →
    exec (.setFilterEnable b) s = .next { s with cfg := { s.cfg with filterEnabled := b } } ∧
    exec (.setExtEnable b) s = .next { s with cfg := { s.cfg with extEnabled := b } } ∧
    exec (.setExtInput x) s = .next { s with cfg := { s.cfg with extIn := x } }

/-- Configuration changes by the three setters only, and the chip type by SET_CHIP_TYPE only; RESET keeps both
(10_state R34, R46). -/
def Obligations.ConfigurationChangesOnlyBySetters : Prop :=
  ∀ (i : Instr) (s t : State), exec i s = .next t →
    ((∀ b, i ≠ .setFilterEnable b) → t.cfg.filterEnabled = s.cfg.filterEnabled) ∧
    ((∀ b, i ≠ .setExtEnable b) → t.cfg.extEnabled = s.cfg.extEnabled) ∧
    ((∀ x, i ≠ .setExtInput x) → t.cfg.extIn = s.cfg.extIn) ∧
    ((∀ c, i ≠ .setChipType c) → t.chip = s.chip)

/-- AUDIO_OUTPUT of a legal width returns the quotient by OUT_DIV, truncated toward zero and clamped to B bits,
and changes nothing of the block; another width is refused (45_chip R262). The external filter's latch is in
range, as the invariant says; that range is ARITH_WIDTH = 32, the model's choice, log entry 10. Keeping the sample in
the field result is the model's choice too, log entry 4. So is the value at width 32: half = 2^31 is outside 32 bits,
and log entry 16 leaves half out of the overflow check of 60_exceptions R283. -/
def Obligations.AudioOutputClampsTheSample : Prop :=
  ∀ (b : Nat) (s : State), s.live → -2147483648 ≤ s.ext.vo → s.ext.vo ≤ 2147483647 →
    (1 ≤ b → b ≤ 32 →
      let half : Int := 2 ^ (b - 1)
      exec (.audioOutput b) s = .next
        { s with result := some (.sample
            (max (-half) (min (half - 1) (s.ext.vo.tdiv (params.outDiv b))))) }) ∧
    (b = 0 ∨ 33 ≤ b → exec (.audioOutput b) s = .next { s with refused := some (.badOutputWidth b) })

/-! ### The invariant -/

/-- Every step keeps the invariant of Safety.lean (10_state R23, R26; 20_memory R60, R66; 41_envelope R146, R147,
R152; 60_exceptions R283). -/
def Obligations.StepKeepsTheInvariant : Prop :=
  ∀ s t : State, s.Inv → step s = .next t → t.Inv

/-- The state after reset meets the invariant. -/
def Obligations.ResetStateMeetsTheInvariant : Prop := State.reset.Inv

/-- The power-up state: the reset values, no held write, no marks, filters enabled and external input 0 (10_state
R47, 70_reset R302). The chip type is the model's choice, log entry 12. -/
def Obligations.PowerUpConfiguration : Prop :=
  State.reset.cfg = ⟨true, true, 0⟩ ∧ State.reset.chip = .mos6581 ∧ State.reset.live ∧
  State.reset.pending = none ∧ exec .reset State.reset = .next State.reset
end

