-- ==== Sys2Proof/Laws/Memory.lean ====
section
/-!
SUPPORT. The laws of the register space's storage: reading after writing, the canonical form kept by every
write, and equal contents are equal data.
-/

namespace Sys2Proof.Machine

@[simp] theorem Memory.read_nil (a : Nat) : Memory.read [] a = 0 := rfl

@[simp] theorem Memory.wfFrom_nil (lo : Nat) : Memory.wfFrom lo [] = true := rfl

theorem Memory.wfFrom_cons (lo k : Nat) (x : Byte) (m : Memory) :
    Memory.wfFrom lo ((k, x) :: m) = true ↔
      lo ≤ k ∧ k < 32 ∧ x ≠ 0 ∧ Memory.wfFrom (k + 1) m = true := by
  simp [Memory.wfFrom, and_assoc]

/-- The canonical form from `lo` on is one from any lower address on. -/
theorem Memory.wfFrom_mono (m : Memory) (lo lo' : Nat) (h : Memory.wfFrom lo m = true) (hl : lo' ≤ lo) :
    Memory.wfFrom lo' m = true := by
  cases m with
  | nil => rfl
  | cons c m =>
    obtain ⟨k, x⟩ := c
    rw [Memory.wfFrom_cons] at h ⊢
    exact ⟨by omega, h.2⟩

/-- Below the first listed address every byte reads as 0. -/
theorem Memory.read_below (m : Memory) (lo a : Nat) (h : Memory.wfFrom lo m = true) (ha : a < lo) :
    m.read a = 0 := by
  induction m generalizing lo with
  | nil => rfl
  | cons c m ih =>
    obtain ⟨k, x⟩ := c
    rw [Memory.wfFrom_cons] at h
    have hne : a ≠ k := by omega
    simp only [Memory.read, hne, if_false]
    exact ih (k + 1) h.2.2.2 (by omega)

/-- A write leaves every other address alone. -/
theorem Memory.read_write_other (m : Memory) (a c : Nat) (b : Byte) (h : c ≠ a) :
    (m.write a b).read c = m.read c := by
  induction m with
  | nil =>
    simp only [Memory.write]
    split <;> simp [Memory.read, h]
  | cons e m ih =>
    obtain ⟨k, x⟩ := e
    simp only [Memory.write]
    split
    · split <;> simp [Memory.read, h]
    · split
      · next hk =>
        subst hk
        split <;> simp [Memory.read, h]
      · simp [Memory.read, ih]

theorem Memory.read_write_same_from (m : Memory) (lo a : Nat) (b : Byte) (h : Memory.wfFrom lo m = true) :
    (m.write a b).read a = b := by
  induction m generalizing lo with
  | nil =>
    simp only [Memory.write]
    split
    · next hb => simp [hb]
    · simp [Memory.read]
  | cons e m ih =>
    obtain ⟨k, x⟩ := e
    rw [Memory.wfFrom_cons] at h
    simp only [Memory.write]
    split
    · next hak =>
      split
      · next hb =>
        have hne : a ≠ k := by omega
        simp only [Memory.read, hne, if_false]
        rw [hb]
        exact Memory.read_below m (k + 1) a h.2.2.2 (by omega)
      · simp [Memory.read]
    · split
      · next hak =>
        subst hak
        split
        · next hb =>
          rw [hb]
          exact Memory.read_below m (a + 1) a h.2.2.2 (by omega)
        · simp [Memory.read]
      · next hak =>
        simp only [Memory.read, hak, if_false]
        exact ih (k + 1) h.2.2.2

/-- A read after a write to the same address gives the value written. -/
theorem Memory.read_write_same (m : Memory) (a : Nat) (b : Byte) (h : m.wf = true) :
    (m.write a b).read a = b :=
  Memory.read_write_same_from m 0 a b h

theorem Memory.wfFrom_write (m : Memory) (lo a : Nat) (b : Byte) (h : Memory.wfFrom lo m = true)
    (hl : lo ≤ a) (ha : a < 32) : Memory.wfFrom lo (m.write a b) = true := by
  induction m generalizing lo with
  | nil =>
    simp only [Memory.write]
    split
    · rfl
    · next hb => exact (Memory.wfFrom_cons lo a b []).2 ⟨hl, ha, hb, rfl⟩
  | cons e m ih =>
    obtain ⟨k, x⟩ := e
    have hc := (Memory.wfFrom_cons lo k x m).1 h
    obtain ⟨hk, hk32, hx, hm⟩ := hc
    simp only [Memory.write]
    split
    · next hak =>
      split
      · exact h
      · next hb =>
        exact (Memory.wfFrom_cons _ _ _ _).2
          ⟨hl, ha, hb, (Memory.wfFrom_cons _ _ _ _).2 ⟨by omega, hk32, hx, hm⟩⟩
    · split
      · next hak =>
        subst hak
        split
        · exact Memory.wfFrom_mono m (a + 1) lo hm (by omega)
        · next hb => exact (Memory.wfFrom_cons _ _ _ _).2 ⟨hl, ha, hb, hm⟩
      · next hlt hne =>
        exact (Memory.wfFrom_cons _ _ _ _).2 ⟨hk, hk32, hx, ih (k + 1) hm (by omega)⟩

/-- Every write keeps the canonical form. -/
theorem Memory.wf_write (m : Memory) (a : Nat) (b : Byte) (h : m.wf = true) (ha : a < 32) :
    (m.write a b).wf = true :=
  Memory.wfFrom_write m 0 a b h (Nat.zero_le a) ha

theorem Memory.eq_of_read_from (m m' : Memory) (lo : Nat) (h : Memory.wfFrom lo m = true)
    (h' : Memory.wfFrom lo m' = true) (hr : ∀ a, m.read a = m'.read a) : m = m' := by
  induction m generalizing lo m' with
  | nil =>
    cases m' with
    | nil => rfl
    | cons e t =>
      obtain ⟨k, x⟩ := e
      have hx := ((Memory.wfFrom_cons lo k x t).1 h').2.2.1
      have := hr k
      simp [Memory.read] at this
      exact absurd this.symm hx
  | cons e t ih =>
    obtain ⟨k, x⟩ := e
    have hc := (Memory.wfFrom_cons lo k x t).1 h
    cases m' with
    | nil =>
      have := hr k
      simp [Memory.read] at this
      exact absurd this hc.2.2.1
    | cons e' t' =>
      obtain ⟨k', x'⟩ := e'
      have hc' := (Memory.wfFrom_cons lo k' x' t').1 h'
      have hkk : k = k' := by
        rcases Nat.lt_trichotomy k k' with hlt | heq | hgt
        · have h1 := hr k
          have hne : k ≠ k' := by omega
          simp only [Memory.read, if_true, hne, if_false] at h1
          rw [Memory.read_below t' (k' + 1) k hc'.2.2.2 (by omega)] at h1
          exact absurd h1 hc.2.2.1
        · exact heq
        · have h1 := hr k'
          have hne : k' ≠ k := by omega
          simp only [Memory.read, if_true, hne, if_false] at h1
          rw [Memory.read_below t (k + 1) k' hc.2.2.2 (by omega)] at h1
          exact absurd h1.symm hc'.2.2.1
      subst hkk
      have hxx : x = x' := by
        have h1 := hr k
        simpa [Memory.read] using h1
      subst hxx
      have htt : t = t' := by
        apply ih t' (k + 1) hc.2.2.2 hc'.2.2.2
        intro a
        by_cases hak : a = k
        · subst hak
          rw [Memory.read_below t (a + 1) a hc.2.2.2 (by omega),
            Memory.read_below t' (a + 1) a hc'.2.2.2 (by omega)]
        · have h1 := hr a
          simpa [Memory.read, hak] using h1
      rw [htt]

/-- Two canonical memories with the same contents are the same list. -/
theorem Memory.eq_of_read (m m' : Memory) (h : m.wf = true) (h' : m'.wf = true)
    (hr : ∀ a, m.read a = m'.read a) : m = m' :=
  Memory.eq_of_read_from m m' 0 h h' hr

end Sys2Proof.Machine
end

