-- ==== Sys2Proof/Laws/Ops.lean ====
section
/-!
SUPPORT. What each shared operation can do, once: the ends of an operation, the marks, checked arithmetic and
the sub-steps of an advance.
-/

namespace Sys2Proof.Machine

/-! ### The ends of an operation -/

@[simp] theorem State.quiescent_eq_false (s : State) :
    s.quiescent = false ↔ s.fault = none ∧ s.refused = none := by
  simp [State.quiescent]

/-- In a live state an operation ends in its own result. -/
theorem afterOp_live (s t : State) (hf : s.fault = none) (hr : s.refused = none) : afterOp s t = .next t := by
  simp [afterOp, State.quiescent, hf, hr]

/-- A raised fault changes the fault mark at most. -/
theorem State.raise_frame (s : State) (f : Fault) :
    (s.raise f).flt = s.flt ∧ (s.raise f).ext = s.ext ∧ (s.raise f).cfg = s.cfg ∧ (s.raise f).chip = s.chip := by
  unfold State.raise
  split <;> exact ⟨rfl, rfl, rfl, rfl⟩

/-- A refusal changes the refusal mark at most. -/
theorem State.refuse_frame (s : State) (r : Refusal) :
    (s.refuse r).flt = s.flt ∧ (s.refuse r).ext = s.ext ∧ (s.refuse r).cfg = s.cfg ∧
      (s.refuse r).chip = s.chip := by
  unfold State.refuse
  split <;> exact ⟨rfl, rfl, rfl, rfl⟩

/-- In a quiescent state an operation changes nothing. -/
theorem afterOp_quiescent (s t : State) (h : s.quiescent = true) : afterOp s t = .next s := by
  simp [afterOp, h]

/-- An operation always ends in a next state: the unchanged one or its own result. -/
theorem afterOp_cases {s t u : State} (h : afterOp s t = .next u) :
    (s.quiescent = true ∧ u = s) ∨ (s.quiescent = false ∧ u = t) := by
  unfold afterOp at h
  cases hq : s.quiescent <;> simp_all

theorem State.raise_live (s : State) (f : Fault) (h : s.fault = none) :
    s.raise f = { s with fault := some f } := by
  simp [State.raise, h]

theorem State.refuse_live (s : State) (r : Refusal) (h : s.refused = none) :
    s.refuse r = { s with refused := some r } := by
  simp [State.refuse, h]

@[simp] theorem State.orRaise_ok (s t : State) : s.orRaise (.ok t) = t := rfl

@[simp] theorem State.orRaise_error (s : State) (f : Fault) : s.orRaise (.error f) = s.raise f := rfl

/-! ### Checked arithmetic -/

/-- The bind of two checked computations gives a value exactly when both do. -/
theorem bind_eq_ok {α β : Type} (x : Except Fault α) (f : α → Except Fault β) (b : β) :
    (x >>= f) = .ok b ↔ ∃ a, x = .ok a ∧ f a = .ok b := by
  cases x with
  | error e =>
    constructor
    · intro h
      cases h
    · rintro ⟨a, ha, -⟩
      cases ha
  | ok a =>
    constructor
    · intro h
      exact ⟨a, rfl, h⟩
    · rintro ⟨a', ha, h⟩
      cases ha
      exact h

/-- A checked value goes on to the next step. The proof is in brackets so that simp rewrites with it: as a
definitional step it would make the kernel evaluate range checks. -/
theorem ok_bind {α β : Type} (a : α) (f : α → Except Fault β) :
    ((Except.ok a : Except Fault α) >>= f) = f a := (rfl)

/-- An overflow ends the computation. -/
theorem error_bind {α β : Type} (e : Fault) (f : α → Except Fault β) :
    ((Except.error e : Except Fault α) >>= f) = .error e := (rfl)

/-- A checked value is the value itself, and it is in range. -/
theorem checked_eq_ok (P : Params) (r : OverflowSite) (x y : Int) :
    checked P r x = .ok y ↔ fits P x = true ∧ y = x := by
  unfold checked
  cases fits P x <;> simp [eq_comm]

/-- A value in range passes the check. -/
theorem checked_of_fits (P : Params) (r : OverflowSite) (x : Int) (h : fits P x = true) :
    checked P r x = .ok x := by
  simp [checked, h]

/-- The only error of a check is its own overflow. -/
theorem checked_eq_error (P : Params) (r : OverflowSite) (x : Int) (f : Fault) :
    checked P r x = .error f ↔ fits P x = false ∧ f = .overflow r := by
  unfold checked
  cases fits P x <;> simp [eq_comm]

/-- The machine's range is 32 bits (log entry 10). -/
theorem fits_params (x : Int) :
    fits params x = true ↔ -2147483648 ≤ x ∧ x ≤ 2147483647 := by
  simp [fits, params]

/-- Zero is always in range. -/
theorem fits_zero (P : Params) : fits P 0 = true := by
  unfold fits
  cases P.arithWidth with
  | none => rfl
  | some w =>
    have h : (1 : Int) ≤ 2 ^ (w - 1) := one_le_pow₀ (by norm_num)
    simp only [Bool.and_eq_true, decide_eq_true_eq]
    constructor <;> linarith

theorem checkedFold_eq_ok (P : Params) (r : OverflowSite) (xs : List Int) (a y : Int)
    (h : xs.foldlM (fun a x => checked P r (a + x)) a = Except.ok y) : y = a + xs.sum := by
  induction xs generalizing a with
  | nil =>
    simp only [List.foldlM_nil] at h
    cases h
    simp
  | cons x xs ih =>
    simp only [List.foldlM_cons] at h
    obtain ⟨b, hb, hy⟩ := (bind_eq_ok _ _ _).1 h
    obtain ⟨-, rfl⟩ := (checked_eq_ok _ _ _ _).1 hb
    rw [ih _ hy, List.sum_cons]
    omega

/-- A checked sum is the sum. -/
theorem checkedSum_eq_ok (P : Params) (r : OverflowSite) (xs : List Int) (y : Int)
    (h : checkedSum P r xs = .ok y) : y = xs.sum := by
  have := checkedFold_eq_ok P r xs 0 y h
  omega

theorem checkedFold_of_bounds (r : OverflowSite) (b : Int) (xs : List Int) (a c : Int) (ha : -c ≤ a ∧ a ≤ c)
    (hx : ∀ x ∈ xs, -b ≤ x ∧ x ≤ b) (hc : c + xs.length * b ≤ 2147483647) (hb : 0 ≤ b) :
    xs.foldlM (fun a x => checked params r (a + x)) a = Except.ok (a + xs.sum) := by
  induction xs generalizing a c with
  | nil =>
    simp only [List.foldlM_nil, List.sum_nil, Int.add_zero]
    rfl
  | cons x xs ih =>
    have h0 := hx x (List.mem_cons_self ..)
    have hlen : c + b + xs.length * b ≤ 2147483647 := by
      have h : ((x :: xs).length : Int) = xs.length + 1 := by simp
      rw [h] at hc
      linarith
    have hpos : 0 ≤ (xs.length : Int) * b := mul_nonneg (Int.natCast_nonneg _) hb
    have hf : fits params (a + x) = true := by
      rw [fits_params]
      omega
    rw [List.foldlM_cons, checked_of_fits _ _ _ hf, ok_bind,
      ih (a + x) (c + b) (by omega) (fun y hy => hx y (List.mem_cons_of_mem _ hy)) hlen, List.sum_cons]
    congr 1
    omega

/-- A sum of bounded terms passes its checks on this machine. -/
theorem checkedSum_of_bounds (r : OverflowSite) (b : Int) (xs : List Int) (hb : 0 ≤ b)
    (hx : ∀ x ∈ xs, -b ≤ x ∧ x ≤ b) (hc : xs.length * b ≤ 2147483647) :
    checkedSum params r xs = .ok xs.sum := by
  have h := checkedFold_of_bounds r b xs 0 0 (by omega) hx (by omega) hb
  rw [checkedSum, h]
  congr 1
  omega

/-! ### Sub-steps -/

/-- The sub-steps of an advance add up to its cycles. -/
theorem sum_subSteps (n : Nat) : (subSteps n).sum = n := by
  unfold subSteps
  split <;> simp <;> omega

/-- Every sub-step has 1 to 8 cycles. -/
theorem subSteps_bounds (n d : Nat) (h : d ∈ subSteps n) : 1 ≤ d ∧ d ≤ 8 := by
  unfold subSteps at h
  rw [List.mem_append] at h
  rcases h with h | h
  · rw [(List.mem_replicate.1 h).2]
    omega
  · split at h
    · cases h
    · rw [List.mem_singleton.1 h]
      omega

/-- An advance of at most eight cycles is one sub-step. -/
theorem subSteps_of_le (n : Nat) (h1 : 1 ≤ n) (h8 : n ≤ 8) : subSteps n = [n] := by
  interval_cases n <;> rfl

/-- Eight cycles more are one sub-step of eight first. -/
theorem subSteps_add (n : Nat) : subSteps (8 + n) = 8 :: subSteps n := by
  unfold subSteps
  rw [Nat.add_div_left n (by norm_num), Nat.add_mod_left, List.replicate_succ, List.cons_append]

end Sys2Proof.Machine
end

