-- ==== Sys2Proof/Laws/State.lean ====
section
/-!
SUPPORT. One lemma per field of State per named update, and the small lemmas of Triple.
-/

namespace Sys2Proof.Machine

/-! ### Triple -/

@[simp] theorem Triple.get_v0 {α : Type} (t : Triple α) : t.get .v0 = t.v0 := rfl

@[simp] theorem Triple.get_v1 {α : Type} (t : Triple α) : t.get .v1 = t.v1 := rfl

@[simp] theorem Triple.get_v2 {α : Type} (t : Triple α) : t.get .v2 = t.v2 := rfl

@[simp] theorem Triple.get_set_same {α : Type} (t : Triple α) (v : VoiceId) (x : α) :
    (t.set v x).get v = x := by
  cases v <;> rfl

theorem Triple.get_set_other {α : Type} (t : Triple α) (v u : VoiceId) (x : α) (h : u ≠ v) :
    (t.set v x).get u = t.get u := by
  cases v <;> cases u <;> first | rfl | exact absurd rfl h

@[simp] theorem Triple.set_get_self {α : Type} (t : Triple α) (v : VoiceId) : t.set v (t.get v) = t := by
  cases v <;> rfl

@[simp] theorem Triple.get_map {α β : Type} (f : α → β) (t : Triple α) (v : VoiceId) :
    (t.map f).get v = f (t.get v) := by
  cases v <;> rfl

/-- Two triples with equal entries are equal. -/
theorem Triple.eq_of_get {α : Type} (t u : Triple α) (h : ∀ v, t.get v = u.get v) : t = u := by
  have h0 : t.v0 = u.v0 := h .v0
  have h1 : t.v1 = u.v1 := h .v1
  have h2 : t.v2 = u.v2 := h .v2
  cases t
  cases u
  simp_all

/-! ### setOsc -/

@[simp] theorem State.setOsc_osc (s : State) (v : VoiceId) (o : Osc) : (s.setOsc v o).osc = s.osc.set v o := rfl

@[simp] theorem State.setOsc_env (s : State) (v : VoiceId) (o : Osc) : (s.setOsc v o).env = s.env := rfl

@[simp] theorem State.setOsc_flt (s : State) (v : VoiceId) (o : Osc) : (s.setOsc v o).flt = s.flt := rfl

@[simp] theorem State.setOsc_ext (s : State) (v : VoiceId) (o : Osc) : (s.setOsc v o).ext = s.ext := rfl

@[simp] theorem State.setOsc_shadow (s : State) (v : VoiceId) (o : Osc) : (s.setOsc v o).shadow = s.shadow := rfl

@[simp] theorem State.setOsc_lastBus (s : State) (v : VoiceId) (o : Osc) : (s.setOsc v o).lastBus = s.lastBus := rfl

@[simp] theorem State.setOsc_chip (s : State) (v : VoiceId) (o : Osc) : (s.setOsc v o).chip = s.chip := rfl

@[simp] theorem State.setOsc_pending (s : State) (v : VoiceId) (o : Osc) : (s.setOsc v o).pending = s.pending := rfl

@[simp] theorem State.setOsc_cfg (s : State) (v : VoiceId) (o : Osc) : (s.setOsc v o).cfg = s.cfg := rfl

@[simp] theorem State.setOsc_fault (s : State) (v : VoiceId) (o : Osc) : (s.setOsc v o).fault = s.fault := rfl

@[simp] theorem State.setOsc_refused (s : State) (v : VoiceId) (o : Osc) : (s.setOsc v o).refused = s.refused := rfl

@[simp] theorem State.setOsc_stream (s : State) (v : VoiceId) (o : Osc) : (s.setOsc v o).stream = s.stream := rfl

@[simp] theorem State.setOsc_pc (s : State) (v : VoiceId) (o : Osc) : (s.setOsc v o).pc = s.pc := rfl

@[simp] theorem State.setOsc_result (s : State) (v : VoiceId) (o : Osc) : (s.setOsc v o).result = s.result := rfl

/-! ### setEnv -/

@[simp] theorem State.setEnv_osc (s : State) (v : VoiceId) (e : Env) : (s.setEnv v e).osc = s.osc := rfl

@[simp] theorem State.setEnv_env (s : State) (v : VoiceId) (e : Env) : (s.setEnv v e).env = s.env.set v e := rfl

@[simp] theorem State.setEnv_flt (s : State) (v : VoiceId) (e : Env) : (s.setEnv v e).flt = s.flt := rfl

@[simp] theorem State.setEnv_ext (s : State) (v : VoiceId) (e : Env) : (s.setEnv v e).ext = s.ext := rfl

@[simp] theorem State.setEnv_shadow (s : State) (v : VoiceId) (e : Env) : (s.setEnv v e).shadow = s.shadow := rfl

@[simp] theorem State.setEnv_lastBus (s : State) (v : VoiceId) (e : Env) : (s.setEnv v e).lastBus = s.lastBus := rfl

@[simp] theorem State.setEnv_chip (s : State) (v : VoiceId) (e : Env) : (s.setEnv v e).chip = s.chip := rfl

@[simp] theorem State.setEnv_pending (s : State) (v : VoiceId) (e : Env) : (s.setEnv v e).pending = s.pending := rfl

@[simp] theorem State.setEnv_cfg (s : State) (v : VoiceId) (e : Env) : (s.setEnv v e).cfg = s.cfg := rfl

@[simp] theorem State.setEnv_fault (s : State) (v : VoiceId) (e : Env) : (s.setEnv v e).fault = s.fault := rfl

@[simp] theorem State.setEnv_refused (s : State) (v : VoiceId) (e : Env) : (s.setEnv v e).refused = s.refused := rfl

@[simp] theorem State.setEnv_stream (s : State) (v : VoiceId) (e : Env) : (s.setEnv v e).stream = s.stream := rfl

@[simp] theorem State.setEnv_pc (s : State) (v : VoiceId) (e : Env) : (s.setEnv v e).pc = s.pc := rfl

@[simp] theorem State.setEnv_result (s : State) (v : VoiceId) (e : Env) : (s.setEnv v e).result = s.result := rfl

/-! ### setVoices -/

@[simp] theorem State.setVoices_osc (s : State) (o : Triple Osc) (e : Triple Env) : (s.setVoices o e).osc = o := rfl

@[simp] theorem State.setVoices_env (s : State) (o : Triple Osc) (e : Triple Env) : (s.setVoices o e).env = e := rfl

@[simp] theorem State.setVoices_flt (s : State) (o : Triple Osc) (e : Triple Env) : (s.setVoices o e).flt = s.flt := rfl

@[simp] theorem State.setVoices_ext (s : State) (o : Triple Osc) (e : Triple Env) : (s.setVoices o e).ext = s.ext := rfl

@[simp] theorem State.setVoices_shadow (s : State) (o : Triple Osc) (e : Triple Env) : (s.setVoices o e).shadow = s.shadow := rfl

@[simp] theorem State.setVoices_lastBus (s : State) (o : Triple Osc) (e : Triple Env) : (s.setVoices o e).lastBus = s.lastBus := rfl

@[simp] theorem State.setVoices_chip (s : State) (o : Triple Osc) (e : Triple Env) : (s.setVoices o e).chip = s.chip := rfl

@[simp] theorem State.setVoices_pending (s : State) (o : Triple Osc) (e : Triple Env) : (s.setVoices o e).pending = s.pending := rfl

@[simp] theorem State.setVoices_cfg (s : State) (o : Triple Osc) (e : Triple Env) : (s.setVoices o e).cfg = s.cfg := rfl

@[simp] theorem State.setVoices_fault (s : State) (o : Triple Osc) (e : Triple Env) : (s.setVoices o e).fault = s.fault := rfl

@[simp] theorem State.setVoices_refused (s : State) (o : Triple Osc) (e : Triple Env) : (s.setVoices o e).refused = s.refused := rfl

@[simp] theorem State.setVoices_stream (s : State) (o : Triple Osc) (e : Triple Env) : (s.setVoices o e).stream = s.stream := rfl

@[simp] theorem State.setVoices_pc (s : State) (o : Triple Osc) (e : Triple Env) : (s.setVoices o e).pc = s.pc := rfl

@[simp] theorem State.setVoices_result (s : State) (o : Triple Osc) (e : Triple Env) : (s.setVoices o e).result = s.result := rfl

/-! ### setFlt -/

@[simp] theorem State.setFlt_osc (s : State) (f : Filter) : (s.setFlt f).osc = s.osc := rfl

@[simp] theorem State.setFlt_env (s : State) (f : Filter) : (s.setFlt f).env = s.env := rfl

@[simp] theorem State.setFlt_flt (s : State) (f : Filter) : (s.setFlt f).flt = f := rfl

@[simp] theorem State.setFlt_ext (s : State) (f : Filter) : (s.setFlt f).ext = s.ext := rfl

@[simp] theorem State.setFlt_shadow (s : State) (f : Filter) : (s.setFlt f).shadow = s.shadow := rfl

@[simp] theorem State.setFlt_lastBus (s : State) (f : Filter) : (s.setFlt f).lastBus = s.lastBus := rfl

@[simp] theorem State.setFlt_chip (s : State) (f : Filter) : (s.setFlt f).chip = s.chip := rfl

@[simp] theorem State.setFlt_pending (s : State) (f : Filter) : (s.setFlt f).pending = s.pending := rfl

@[simp] theorem State.setFlt_cfg (s : State) (f : Filter) : (s.setFlt f).cfg = s.cfg := rfl

@[simp] theorem State.setFlt_fault (s : State) (f : Filter) : (s.setFlt f).fault = s.fault := rfl

@[simp] theorem State.setFlt_refused (s : State) (f : Filter) : (s.setFlt f).refused = s.refused := rfl

@[simp] theorem State.setFlt_stream (s : State) (f : Filter) : (s.setFlt f).stream = s.stream := rfl

@[simp] theorem State.setFlt_pc (s : State) (f : Filter) : (s.setFlt f).pc = s.pc := rfl

@[simp] theorem State.setFlt_result (s : State) (f : Filter) : (s.setFlt f).result = s.result := rfl

/-! ### setExt -/

@[simp] theorem State.setExt_osc (s : State) (e : ExtFilter) : (s.setExt e).osc = s.osc := rfl

@[simp] theorem State.setExt_env (s : State) (e : ExtFilter) : (s.setExt e).env = s.env := rfl

@[simp] theorem State.setExt_flt (s : State) (e : ExtFilter) : (s.setExt e).flt = s.flt := rfl

@[simp] theorem State.setExt_ext (s : State) (e : ExtFilter) : (s.setExt e).ext = e := rfl

@[simp] theorem State.setExt_shadow (s : State) (e : ExtFilter) : (s.setExt e).shadow = s.shadow := rfl

@[simp] theorem State.setExt_lastBus (s : State) (e : ExtFilter) : (s.setExt e).lastBus = s.lastBus := rfl

@[simp] theorem State.setExt_chip (s : State) (e : ExtFilter) : (s.setExt e).chip = s.chip := rfl

@[simp] theorem State.setExt_pending (s : State) (e : ExtFilter) : (s.setExt e).pending = s.pending := rfl

@[simp] theorem State.setExt_cfg (s : State) (e : ExtFilter) : (s.setExt e).cfg = s.cfg := rfl

@[simp] theorem State.setExt_fault (s : State) (e : ExtFilter) : (s.setExt e).fault = s.fault := rfl

@[simp] theorem State.setExt_refused (s : State) (e : ExtFilter) : (s.setExt e).refused = s.refused := rfl

@[simp] theorem State.setExt_stream (s : State) (e : ExtFilter) : (s.setExt e).stream = s.stream := rfl

@[simp] theorem State.setExt_pc (s : State) (e : ExtFilter) : (s.setExt e).pc = s.pc := rfl

@[simp] theorem State.setExt_result (s : State) (e : ExtFilter) : (s.setExt e).result = s.result := rfl

/-! ### storeShadow -/

@[simp] theorem State.storeShadow_osc (s : State) (a : Addr) (d : Byte) : (s.storeShadow a d).osc = s.osc := rfl

@[simp] theorem State.storeShadow_env (s : State) (a : Addr) (d : Byte) : (s.storeShadow a d).env = s.env := rfl

@[simp] theorem State.storeShadow_flt (s : State) (a : Addr) (d : Byte) : (s.storeShadow a d).flt = s.flt := rfl

@[simp] theorem State.storeShadow_ext (s : State) (a : Addr) (d : Byte) : (s.storeShadow a d).ext = s.ext := rfl

@[simp] theorem State.storeShadow_shadow (s : State) (a : Addr) (d : Byte) : (s.storeShadow a d).shadow = s.shadow.write a.toNat d := rfl

@[simp] theorem State.storeShadow_lastBus (s : State) (a : Addr) (d : Byte) : (s.storeShadow a d).lastBus = d := rfl

@[simp] theorem State.storeShadow_chip (s : State) (a : Addr) (d : Byte) : (s.storeShadow a d).chip = s.chip := rfl

@[simp] theorem State.storeShadow_pending (s : State) (a : Addr) (d : Byte) : (s.storeShadow a d).pending = s.pending := rfl

@[simp] theorem State.storeShadow_cfg (s : State) (a : Addr) (d : Byte) : (s.storeShadow a d).cfg = s.cfg := rfl

@[simp] theorem State.storeShadow_fault (s : State) (a : Addr) (d : Byte) : (s.storeShadow a d).fault = s.fault := rfl

@[simp] theorem State.storeShadow_refused (s : State) (a : Addr) (d : Byte) : (s.storeShadow a d).refused = s.refused := rfl

@[simp] theorem State.storeShadow_stream (s : State) (a : Addr) (d : Byte) : (s.storeShadow a d).stream = s.stream := rfl

@[simp] theorem State.storeShadow_pc (s : State) (a : Addr) (d : Byte) : (s.storeShadow a d).pc = s.pc := rfl

@[simp] theorem State.storeShadow_result (s : State) (a : Addr) (d : Byte) : (s.storeShadow a d).result = s.result := rfl

/-! ### setPending -/

@[simp] theorem State.setPending_osc (s : State) (p : Option HeldWrite) : (s.setPending p).osc = s.osc := rfl

@[simp] theorem State.setPending_env (s : State) (p : Option HeldWrite) : (s.setPending p).env = s.env := rfl

@[simp] theorem State.setPending_flt (s : State) (p : Option HeldWrite) : (s.setPending p).flt = s.flt := rfl

@[simp] theorem State.setPending_ext (s : State) (p : Option HeldWrite) : (s.setPending p).ext = s.ext := rfl

@[simp] theorem State.setPending_shadow (s : State) (p : Option HeldWrite) : (s.setPending p).shadow = s.shadow := rfl

@[simp] theorem State.setPending_lastBus (s : State) (p : Option HeldWrite) : (s.setPending p).lastBus = s.lastBus := rfl

@[simp] theorem State.setPending_chip (s : State) (p : Option HeldWrite) : (s.setPending p).chip = s.chip := rfl

@[simp] theorem State.setPending_pending (s : State) (p : Option HeldWrite) : (s.setPending p).pending = p := rfl

@[simp] theorem State.setPending_cfg (s : State) (p : Option HeldWrite) : (s.setPending p).cfg = s.cfg := rfl

@[simp] theorem State.setPending_fault (s : State) (p : Option HeldWrite) : (s.setPending p).fault = s.fault := rfl

@[simp] theorem State.setPending_refused (s : State) (p : Option HeldWrite) : (s.setPending p).refused = s.refused := rfl

@[simp] theorem State.setPending_stream (s : State) (p : Option HeldWrite) : (s.setPending p).stream = s.stream := rfl

@[simp] theorem State.setPending_pc (s : State) (p : Option HeldWrite) : (s.setPending p).pc = s.pc := rfl

@[simp] theorem State.setPending_result (s : State) (p : Option HeldWrite) : (s.setPending p).result = s.result := rfl

/-! ### setChip -/

@[simp] theorem State.setChip_osc (s : State) (c : Chip) : (s.setChip c).osc = s.osc := rfl

@[simp] theorem State.setChip_env (s : State) (c : Chip) : (s.setChip c).env = s.env := rfl

@[simp] theorem State.setChip_flt (s : State) (c : Chip) : (s.setChip c).flt = s.flt := rfl

@[simp] theorem State.setChip_ext (s : State) (c : Chip) : (s.setChip c).ext = s.ext := rfl

@[simp] theorem State.setChip_shadow (s : State) (c : Chip) : (s.setChip c).shadow = s.shadow := rfl

@[simp] theorem State.setChip_lastBus (s : State) (c : Chip) : (s.setChip c).lastBus = s.lastBus := rfl

@[simp] theorem State.setChip_chip (s : State) (c : Chip) : (s.setChip c).chip = c := rfl

@[simp] theorem State.setChip_pending (s : State) (c : Chip) : (s.setChip c).pending = s.pending := rfl

@[simp] theorem State.setChip_cfg (s : State) (c : Chip) : (s.setChip c).cfg = s.cfg := rfl

@[simp] theorem State.setChip_fault (s : State) (c : Chip) : (s.setChip c).fault = s.fault := rfl

@[simp] theorem State.setChip_refused (s : State) (c : Chip) : (s.setChip c).refused = s.refused := rfl

@[simp] theorem State.setChip_stream (s : State) (c : Chip) : (s.setChip c).stream = s.stream := rfl

@[simp] theorem State.setChip_pc (s : State) (c : Chip) : (s.setChip c).pc = s.pc := rfl

@[simp] theorem State.setChip_result (s : State) (c : Chip) : (s.setChip c).result = s.result := rfl

/-! ### setCfg -/

@[simp] theorem State.setCfg_osc (s : State) (c : Cfg) : (s.setCfg c).osc = s.osc := rfl

@[simp] theorem State.setCfg_env (s : State) (c : Cfg) : (s.setCfg c).env = s.env := rfl

@[simp] theorem State.setCfg_flt (s : State) (c : Cfg) : (s.setCfg c).flt = s.flt := rfl

@[simp] theorem State.setCfg_ext (s : State) (c : Cfg) : (s.setCfg c).ext = s.ext := rfl

@[simp] theorem State.setCfg_shadow (s : State) (c : Cfg) : (s.setCfg c).shadow = s.shadow := rfl

@[simp] theorem State.setCfg_lastBus (s : State) (c : Cfg) : (s.setCfg c).lastBus = s.lastBus := rfl

@[simp] theorem State.setCfg_chip (s : State) (c : Cfg) : (s.setCfg c).chip = s.chip := rfl

@[simp] theorem State.setCfg_pending (s : State) (c : Cfg) : (s.setCfg c).pending = s.pending := rfl

@[simp] theorem State.setCfg_cfg (s : State) (c : Cfg) : (s.setCfg c).cfg = c := rfl

@[simp] theorem State.setCfg_fault (s : State) (c : Cfg) : (s.setCfg c).fault = s.fault := rfl

@[simp] theorem State.setCfg_refused (s : State) (c : Cfg) : (s.setCfg c).refused = s.refused := rfl

@[simp] theorem State.setCfg_stream (s : State) (c : Cfg) : (s.setCfg c).stream = s.stream := rfl

@[simp] theorem State.setCfg_pc (s : State) (c : Cfg) : (s.setCfg c).pc = s.pc := rfl

@[simp] theorem State.setCfg_result (s : State) (c : Cfg) : (s.setCfg c).result = s.result := rfl

/-! ### setResult -/

@[simp] theorem State.setResult_osc (s : State) (r : HostResult) : (s.setResult r).osc = s.osc := rfl

@[simp] theorem State.setResult_env (s : State) (r : HostResult) : (s.setResult r).env = s.env := rfl

@[simp] theorem State.setResult_flt (s : State) (r : HostResult) : (s.setResult r).flt = s.flt := rfl

@[simp] theorem State.setResult_ext (s : State) (r : HostResult) : (s.setResult r).ext = s.ext := rfl

@[simp] theorem State.setResult_shadow (s : State) (r : HostResult) : (s.setResult r).shadow = s.shadow := rfl

@[simp] theorem State.setResult_lastBus (s : State) (r : HostResult) : (s.setResult r).lastBus = s.lastBus := rfl

@[simp] theorem State.setResult_chip (s : State) (r : HostResult) : (s.setResult r).chip = s.chip := rfl

@[simp] theorem State.setResult_pending (s : State) (r : HostResult) : (s.setResult r).pending = s.pending := rfl

@[simp] theorem State.setResult_cfg (s : State) (r : HostResult) : (s.setResult r).cfg = s.cfg := rfl

@[simp] theorem State.setResult_fault (s : State) (r : HostResult) : (s.setResult r).fault = s.fault := rfl

@[simp] theorem State.setResult_refused (s : State) (r : HostResult) : (s.setResult r).refused = s.refused := rfl

@[simp] theorem State.setResult_stream (s : State) (r : HostResult) : (s.setResult r).stream = s.stream := rfl

@[simp] theorem State.setResult_pc (s : State) (r : HostResult) : (s.setResult r).pc = s.pc := rfl

@[simp] theorem State.setResult_result (s : State) (r : HostResult) : (s.setResult r).result = some r := rfl

/-! ### takeWord -/

@[simp] theorem State.takeWord_osc (s : State) : (s.takeWord).osc = s.osc := rfl

@[simp] theorem State.takeWord_env (s : State) : (s.takeWord).env = s.env := rfl

@[simp] theorem State.takeWord_flt (s : State) : (s.takeWord).flt = s.flt := rfl

@[simp] theorem State.takeWord_ext (s : State) : (s.takeWord).ext = s.ext := rfl

@[simp] theorem State.takeWord_shadow (s : State) : (s.takeWord).shadow = s.shadow := rfl

@[simp] theorem State.takeWord_lastBus (s : State) : (s.takeWord).lastBus = s.lastBus := rfl

@[simp] theorem State.takeWord_chip (s : State) : (s.takeWord).chip = s.chip := rfl

@[simp] theorem State.takeWord_pending (s : State) : (s.takeWord).pending = s.pending := rfl

@[simp] theorem State.takeWord_cfg (s : State) : (s.takeWord).cfg = s.cfg := rfl

@[simp] theorem State.takeWord_fault (s : State) : (s.takeWord).fault = s.fault := rfl

@[simp] theorem State.takeWord_refused (s : State) : (s.takeWord).refused = s.refused := rfl

@[simp] theorem State.takeWord_stream (s : State) : (s.takeWord).stream = s.stream.tail := rfl

@[simp] theorem State.takeWord_pc (s : State) : (s.takeWord).pc = s.pc + 1 := rfl

@[simp] theorem State.takeWord_result (s : State) : (s.takeWord).result = s.result := rfl

end Sys2Proof.Machine
end

