-- ==== Sys2Proof/Laws/Chip.lean ====
section
/-!
SUPPORT. What a register write, its dispatch, the write pipeline and a register read can do, once.
-/

namespace Sys2Proof.Machine

/-! ### The register map -/

/-- The target of a voice register's offset. -/
@[simp] theorem targetOf_voiceAddr (v : VoiceId) (r : VoiceReg) : targetOf (voiceAddr v r) = .voice v r := by
  cases v <;> cases r <;> rfl

/-- The target of a filter register's offset. -/
@[simp] theorem targetOf_filterAddr (r : FilterReg) : targetOf (filterAddr r) = .filter r := by
  cases r <;> rfl

/-- The target of an unmapped offset. -/
@[simp] theorem targetOf_unmapped (u : UnmappedOffset) : targetOf u.addr = .unmapped := by
  cases u <;> rfl

/-- The offset of a voice register, as a number. -/
theorem voiceAddr_toNat (v : VoiceId) (r : VoiceReg) : (voiceAddr v r).toNat = 7 * v.toNat + r.toNat := by
  cases v <;> cases r <;> rfl

/-- Only a voice register's offset has that register as its target. -/
theorem eq_voiceAddr_of_targetOf {a : Addr} {v : VoiceId} {r : VoiceReg} (h : targetOf a = .voice v r) :
    a = voiceAddr v r := by
  revert h
  cases v <;> cases r <;> revert a <;> decide

/-! ### The instructions of an offset -/

/-- A WRITE of an offset 0..31 is the write of 45_chip R240. -/
theorem exec_writeAt (a : Addr) (d : Byte) (s : State) :
    exec (writeAt a d) s = afterOp s (s.writeInRange params a d) := by
  obtain ⟨⟨n, hn⟩⟩ := a
  change n < 32 at hn
  interval_cases n <;> rfl

/-- A READ of an offset 0..31 returns its read value. -/
theorem exec_readAt (a : Addr) (s : State) :
    exec (readAt a) s = afterOp s (s.setResult (.byte (s.readValue params a))) := by
  obtain ⟨⟨n, hn⟩⟩ := a
  change n < 32 at hn
  interval_cases n <;> rfl

theorem voiceWrite_eq (v : VoiceId) (r : VoiceReg) (d : Byte) :
    voiceWrite v r d = writeAt (voiceAddr v r) d := by
  cases v <;> cases r <;> rfl

theorem filterWrite_eq (r : FilterReg) (d : Byte) : filterWrite r d = writeAt (filterAddr r) d := by
  cases r <;> rfl

theorem unmappedWrite_eq (u : UnmappedOffset) (d : Byte) : unmappedWrite u d = writeAt u.addr d := by
  cases u <;> rfl

/-- On MOS6581 a live block's WRITE is applied at once (45_chip R240). -/
theorem exec_writeAt_mos6581 (a : Addr) (d : Byte) (s : State) (hs : s.live) (hc : s.chip = .mos6581) :
    exec (writeAt a d) s = .next (s.apply params a d) := by
  rw [exec_writeAt, afterOp_live _ _ hs.1 hs.2]
  simp [State.writeInRange, hc]

/-- On MOS8580 a live block's WRITE is held, after the one already held is applied (20_memory R66). -/
theorem exec_writeAt_mos8580 (a : Addr) (d : Byte) (s : State) (hs : s.live) (hc : s.chip = .mos8580) :
    exec (writeAt a d) s = .next (s.issue params a d) := by
  rw [exec_writeAt, afterOp_live _ _ hs.1 hs.2]
  simp [State.writeInRange, hc]

/-! ### What a dispatch leaves unchanged -/

/-- A field that no dispatched write touches. -/
theorem State.dispatch_kept {α : Type} (P : Params) (g : State → α)
    (ho : ∀ s v o, g (State.setOsc s v o) = g s) (he : ∀ s v e, g (State.setEnv s v e) = g s)
    (hv : ∀ s o e, g (State.setVoices s o e) = g s) (hf : ∀ s f, g (State.setFlt s f) = g s) (s : State) (t : Target) (d : Byte) :
    g (s.dispatch P t d) = g s := by
  cases t with
  | voice v r => cases r <;> simp [State.dispatch, State.writeVoice, State.writeControl, ho, he, hv]
  | filter r => cases r <;> simp [State.dispatch, State.writeFilter, hf]
  | unmapped => rfl

@[simp] theorem State.dispatch_ext (P : Params) (s : State) (t : Target) (d : Byte) :
    (s.dispatch P t d).ext = s.ext :=
  State.dispatch_kept P State.ext (fun _ _ _ => rfl) (fun _ _ _ => rfl) (fun _ _ _ => rfl)
    (fun _ _ => rfl) s t d

@[simp] theorem State.dispatch_shadow (P : Params) (s : State) (t : Target) (d : Byte) :
    (s.dispatch P t d).shadow = s.shadow :=
  State.dispatch_kept P State.shadow (fun _ _ _ => rfl) (fun _ _ _ => rfl) (fun _ _ _ => rfl)
    (fun _ _ => rfl) s t d

@[simp] theorem State.dispatch_lastBus (P : Params) (s : State) (t : Target) (d : Byte) :
    (s.dispatch P t d).lastBus = s.lastBus :=
  State.dispatch_kept P State.lastBus (fun _ _ _ => rfl) (fun _ _ _ => rfl) (fun _ _ _ => rfl)
    (fun _ _ => rfl) s t d

@[simp] theorem State.dispatch_chip (P : Params) (s : State) (t : Target) (d : Byte) :
    (s.dispatch P t d).chip = s.chip :=
  State.dispatch_kept P State.chip (fun _ _ _ => rfl) (fun _ _ _ => rfl) (fun _ _ _ => rfl)
    (fun _ _ => rfl) s t d

@[simp] theorem State.dispatch_pending (P : Params) (s : State) (t : Target) (d : Byte) :
    (s.dispatch P t d).pending = s.pending :=
  State.dispatch_kept P State.pending (fun _ _ _ => rfl) (fun _ _ _ => rfl) (fun _ _ _ => rfl)
    (fun _ _ => rfl) s t d

@[simp] theorem State.dispatch_cfg (P : Params) (s : State) (t : Target) (d : Byte) :
    (s.dispatch P t d).cfg = s.cfg :=
  State.dispatch_kept P State.cfg (fun _ _ _ => rfl) (fun _ _ _ => rfl) (fun _ _ _ => rfl)
    (fun _ _ => rfl) s t d

@[simp] theorem State.dispatch_fault (P : Params) (s : State) (t : Target) (d : Byte) :
    (s.dispatch P t d).fault = s.fault :=
  State.dispatch_kept P State.fault (fun _ _ _ => rfl) (fun _ _ _ => rfl) (fun _ _ _ => rfl)
    (fun _ _ => rfl) s t d

@[simp] theorem State.dispatch_refused (P : Params) (s : State) (t : Target) (d : Byte) :
    (s.dispatch P t d).refused = s.refused :=
  State.dispatch_kept P State.refused (fun _ _ _ => rfl) (fun _ _ _ => rfl) (fun _ _ _ => rfl)
    (fun _ _ => rfl) s t d

@[simp] theorem State.dispatch_stream (P : Params) (s : State) (t : Target) (d : Byte) :
    (s.dispatch P t d).stream = s.stream :=
  State.dispatch_kept P State.stream (fun _ _ _ => rfl) (fun _ _ _ => rfl) (fun _ _ _ => rfl)
    (fun _ _ => rfl) s t d

@[simp] theorem State.dispatch_pc (P : Params) (s : State) (t : Target) (d : Byte) :
    (s.dispatch P t d).pc = s.pc :=
  State.dispatch_kept P State.pc (fun _ _ _ => rfl) (fun _ _ _ => rfl) (fun _ _ _ => rfl)
    (fun _ _ => rfl) s t d

@[simp] theorem State.dispatch_result (P : Params) (s : State) (t : Target) (d : Byte) :
    (s.dispatch P t d).result = s.result :=
  State.dispatch_kept P State.result (fun _ _ _ => rfl) (fun _ _ _ => rfl) (fun _ _ _ => rfl)
    (fun _ _ => rfl) s t d

/-! ### What a write leaves unchanged -/

@[simp] theorem State.apply_ext (P : Params) (s : State) (a : Addr) (d : Byte) : (s.apply P a d).ext = s.ext := by
  simp [State.apply]

@[simp] theorem State.apply_shadow (P : Params) (s : State) (a : Addr) (d : Byte) :
    (s.apply P a d).shadow = s.shadow.write a.toNat d := by
  simp [State.apply]

@[simp] theorem State.apply_lastBus (P : Params) (s : State) (a : Addr) (d : Byte) :
    (s.apply P a d).lastBus = d := by
  simp [State.apply]

@[simp] theorem State.apply_chip (P : Params) (s : State) (a : Addr) (d : Byte) :
    (s.apply P a d).chip = s.chip := by
  simp [State.apply]

@[simp] theorem State.apply_pending (P : Params) (s : State) (a : Addr) (d : Byte) :
    (s.apply P a d).pending = s.pending := by
  simp [State.apply]

@[simp] theorem State.apply_cfg (P : Params) (s : State) (a : Addr) (d : Byte) : (s.apply P a d).cfg = s.cfg := by
  simp [State.apply]

@[simp] theorem State.apply_fault (P : Params) (s : State) (a : Addr) (d : Byte) :
    (s.apply P a d).fault = s.fault := by
  simp [State.apply]

@[simp] theorem State.apply_refused (P : Params) (s : State) (a : Addr) (d : Byte) :
    (s.apply P a d).refused = s.refused := by
  simp [State.apply]

@[simp] theorem State.apply_stream (P : Params) (s : State) (a : Addr) (d : Byte) :
    (s.apply P a d).stream = s.stream := by
  simp [State.apply]

@[simp] theorem State.apply_pc (P : Params) (s : State) (a : Addr) (d : Byte) : (s.apply P a d).pc = s.pc := by
  simp [State.apply]

@[simp] theorem State.apply_result (P : Params) (s : State) (a : Addr) (d : Byte) :
    (s.apply P a d).result = s.result := by
  simp [State.apply]

/-- A write keeps the filter's signed state (42_filter R187). -/
theorem State.apply_signed (P : Params) (s : State) (a : Addr) (d : Byte) :
    (s.apply P a d).flt.vhp = s.flt.vhp ∧ (s.apply P a d).flt.vbp = s.flt.vbp ∧
      (s.apply P a d).flt.vlp = s.flt.vlp ∧ (s.apply P a d).flt.vnf = s.flt.vnf := by
  unfold State.apply
  cases targetOf a with
  | voice v r => cases r <;> exact ⟨rfl, rfl, rfl, rfl⟩
  | filter r => cases r <;> exact ⟨rfl, rfl, rfl, rfl⟩
  | unmapped => exact ⟨rfl, rfl, rfl, rfl⟩

/-- A write leaves a voice its offset does not belong to. -/
theorem State.apply_otherVoice (P : Params) (s : State) (a : Addr) (d : Byte) (v : VoiceId)
    (h : ∀ r, a ≠ voiceAddr v r) :
    (s.apply P a d).osc.get v = s.osc.get v ∧ (s.apply P a d).env.get v = s.env.get v := by
  unfold State.apply
  cases ht : targetOf a with
  | voice u r =>
    have hu : v ≠ u := by
      rintro rfl
      exact h r (eq_voiceAddr_of_targetOf ht)
    cases r <;>
      simp [State.dispatch, State.writeVoice, State.writeControl, State.storeShadow,
        Triple.get_set_other _ _ _ _ hu]
  | filter r => cases r <;> exact ⟨rfl, rfl⟩
  | unmapped => exact ⟨rfl, rfl⟩

/-- What a write does to an oscillator: nothing, or one of the five register writes. -/
theorem State.apply_osc_cases (P : Params) (s : State) (a : Addr) (d : Byte) (v : VoiceId) :
    (s.apply P a d).osc.get v = s.osc.get v ∨
    (s.apply P a d).osc.get v = { s.osc.get v with freq := withFreqLo (s.osc.get v).freq d } ∨
    (s.apply P a d).osc.get v = { s.osc.get v with freq := withFreqHi (s.osc.get v).freq d } ∨
    (s.apply P a d).osc.get v = { s.osc.get v with pw := withPwLo (s.osc.get v).pw d } ∨
    (s.apply P a d).osc.get v = { s.osc.get v with pw := withPwHi (s.osc.get v).pw d } ∨
    (s.apply P a d).osc.get v =
      (s.osc.get v).writeControl P s.chip (oscOutput P s.chip s.osc v) d := by
  unfold State.apply
  cases targetOf a with
  | voice u r =>
    by_cases hu : v = u
    · subst hu
      cases r <;> simp [State.dispatch, State.writeVoice, State.writeControl, State.storeShadow]
    · cases r <;>
        simp [State.dispatch, State.writeVoice, State.writeControl, State.storeShadow,
          Triple.get_set_other _ _ _ _ hu]
  | filter r => cases r <;> exact .inl rfl
  | unmapped => exact .inl rfl

/-- What a write does to an envelope generator: nothing, or one of the three register writes. -/
theorem State.apply_env_cases (P : Params) (s : State) (a : Addr) (d : Byte) (v : VoiceId) :
    (s.apply P a d).env.get v = s.env.get v ∨
    (s.apply P a d).env.get v = (s.env.get v).gateWrite P (ctlGate d) ∨
    (s.apply P a d).env.get v = (s.env.get v).writeAttackDecay P d ∨
    (s.apply P a d).env.get v = (s.env.get v).writeSustainRelease P d := by
  unfold State.apply
  cases targetOf a with
  | voice u r =>
    by_cases hu : v = u
    · subst hu
      cases r <;> simp [State.dispatch, State.writeVoice, State.writeControl, State.storeShadow]
    · cases r <;>
        simp [State.dispatch, State.writeVoice, State.writeControl, State.storeShadow,
          Triple.get_set_other _ _ _ _ hu]
  | filter r => cases r <;> exact .inl rfl
  | unmapped => exact .inl rfl

/-! ### The write pipeline -/

/-- With no held write the pipeline has nothing to do. -/
theorem State.flush_none (P : Params) (s : State) (h : s.pending = none) : s.flush P = s := by
  simp [State.flush, h]

/-- A held write is applied and the pipeline is empty (20_memory R66). -/
theorem State.flush_some (P : Params) (s : State) (w : HeldWrite) (h : s.pending = some w) :
    s.flush P = (s.apply P w.addr w.data).setPending none := by
  simp [State.flush, h]

/-- After a flush nothing is held. -/
@[simp] theorem State.flush_pending (P : Params) (s : State) : (s.flush P).pending = none := by
  unfold State.flush
  split
  · rfl
  · assumption

/-- A flush keeps the filters' signed state, the configuration and the chip type. -/
theorem State.flush_frame (P : Params) (s : State) :
    (s.flush P).flt.vhp = s.flt.vhp ∧ (s.flush P).flt.vbp = s.flt.vbp ∧ (s.flush P).flt.vlp = s.flt.vlp ∧
      (s.flush P).flt.vnf = s.flt.vnf ∧ (s.flush P).ext = s.ext ∧ (s.flush P).cfg = s.cfg ∧
      (s.flush P).chip = s.chip := by
  cases hp : s.pending with
  | none =>
    rw [State.flush_none P s hp]
    exact ⟨rfl, rfl, rfl, rfl, rfl, rfl, rfl⟩
  | some w =>
    rw [State.flush_some P s w hp]
    obtain ⟨h1, h2, h3, h4⟩ := State.apply_signed P s w.addr w.data
    exact ⟨h1, h2, h3, h4, by simp, by simp, by simp⟩

/-- A write on either chip keeps the filters' signed state, the configuration and the chip type. -/
theorem State.writeInRange_frame (P : Params) (s : State) (a : Addr) (d : Byte) :
    (s.writeInRange P a d).flt.vhp = s.flt.vhp ∧ (s.writeInRange P a d).flt.vbp = s.flt.vbp ∧
      (s.writeInRange P a d).flt.vlp = s.flt.vlp ∧ (s.writeInRange P a d).flt.vnf = s.flt.vnf ∧
      (s.writeInRange P a d).ext = s.ext ∧ (s.writeInRange P a d).cfg = s.cfg ∧
      (s.writeInRange P a d).chip = s.chip := by
  unfold State.writeInRange
  split
  · obtain ⟨h1, h2, h3, h4⟩ := State.apply_signed P s a d
    exact ⟨h1, h2, h3, h4, by simp, by simp, by simp⟩
  · exact State.flush_frame P s

/-! ### Reads -/

/-- The byte a write stores reads back (45_chip R241). -/
theorem State.readShadow_apply_same (P : Params) (s : State) (a : Addr) (d : Byte) (h : s.shadow.wf = true) :
    (s.apply P a d).readShadow a.toNat = d := by
  simp only [State.readShadow, State.apply_shadow]
  exact Memory.read_write_same s.shadow a.toNat d h

@[simp] theorem State.readShadow_apply_other (P : Params) (s : State) (a : Addr) (d : Byte) (b : Nat)
    (h : b ≠ a.toNat) : (s.apply P a d).readShadow b = s.readShadow b := by
  simp only [State.readShadow, State.apply_shadow]
  exact Memory.read_write_other s.shadow a.toNat b d h

end Sys2Proof.Machine
end

