-- ==== Sys2Proof/Laws/Params.lean ====
section
/-!
SUPPORT. The machine's parameters meet the spec's constraints, and the ranges of the open numbers.
-/

namespace Sys2Proof.Machine

/-- The period of nibble 0 as a number. -/
theorem toNat_ratePeriodTable_zero : (ratePeriodTable 0).toNat = Config.ratePeriodZeroLessOne.val + 1 := by
  have hlt := Config.ratePeriodZeroLessOne.isLt
  rw [ratePeriodTable, if_pos rfl, BitVec.toNat_ofNat]
  omega

/-- The period of every other nibble as a number. -/
theorem toNat_ratePeriodTable (n : BitVec 4) (h : n ≠ 0) :
    (ratePeriodTable n).toNat = (Config.ratePeriodLessOne n).val + 1 := by
  have hlt := (Config.ratePeriodLessOne n).isLt
  rw [ratePeriodTable, if_neg h, BitVec.toNat_ofNat]
  omega

/-- The scenario's bound on the first period and the gate-on delay (41_envelope R140, log entry 32). -/
theorem gateOnLatency_bound : 255 * (ratePeriodTable 0).toNat + gateOnLatency ≤ 1000000 := by
  have hlt := Config.ratePeriodZeroLessOne.isLt
  rw [toNat_ratePeriodTable_zero, gateOnLatency]
  omega

/-- The machine's parameters meet the constraints of 00_scope R11 and 41_envelope R140. -/
theorem params_legal : params.Legal := by
  refine ⟨?_, by decide, ?_, ?_, ?_, ?_, ?_, gateOnLatency_bound⟩
  · intro n h
    have h2 := congrArg BitVec.toNat h
    change (ratePeriodTable n).toNat = 0 at h2
    by_cases hn : n = 0
    · rw [hn, toNat_ratePeriodTable_zero] at h2
      omega
    · rw [toNat_ratePeriodTable n hn] at h2
      omega
  · exact Nat.succ_le_succ (Nat.zero_le _)
  · exact Nat.succ_le_succ (Nat.zero_le _)
  · exact fun c => Nat.succ_le_succ (Nat.zero_le _)
  · exact fun c => Nat.succ_le_succ (Nat.zero_le _)
  · exact fun b => Nat.succ_le_succ (Nat.zero_le _)

theorem toInt_bounds13 (x : BitVec 13) : -4096 ≤ x.toInt ∧ x.toInt ≤ 4095 := by
  have h1 := BitVec.le_toInt x
  have h2 := BitVec.toInt_lt (x := x)
  norm_num at h1 h2
  omega

theorem toInt_bounds9 (x : BitVec 9) : -256 ≤ x.toInt ∧ x.toInt ≤ 255 := by
  have h1 := BitVec.le_toInt x
  have h2 := BitVec.toInt_lt (x := x)
  norm_num at h1 h2
  omega

theorem toInt_bounds24 (x : BitVec 24) : -8388608 ≤ x.toInt ∧ x.toInt ≤ 8388607 := by
  have h1 := BitVec.le_toInt x
  have h2 := BitVec.toInt_lt (x := x)
  norm_num at h1 h2
  omega

/-- WAVE_DAC's range (log entry 9). -/
theorem params_waveDac_bounds (c : Chip) (x : BitVec 12) :
    -4096 ≤ params.waveDac c x ∧ params.waveDac c x ≤ 4095 :=
  toInt_bounds13 _

/-- WAVE_ZERO's range (log entry 9). -/
theorem params_waveZero_bounds (c : Chip) : -4096 ≤ params.waveZero c ∧ params.waveZero c ≤ 4095 :=
  toInt_bounds13 _

/-- ENV_DAC's range (log entry 9). -/
theorem params_envDac_bounds (c : Chip) (x : Byte) :
    -256 ≤ params.envDac c x ∧ params.envDac c x ≤ 255 :=
  toInt_bounds9 _

/-- FILTER_DC's range (log entry 9). -/
theorem params_filterDc_bounds (c : Chip) : -8388608 ≤ params.filterDc c ∧ params.filterDc c ≤ 8388607 :=
  toInt_bounds24 _

/-- EXT_DC's range (log entry 9). -/
theorem params_extDc_bounds (c : Chip) : -8388608 ≤ params.extDc c ∧ params.extDc c ≤ 8388607 :=
  toInt_bounds24 _

/-- W0LP's range (log entry 9). -/
theorem params_w0lp_lt : params.w0lp < 16777216 := Config.w0lpCode.isLt

/-- W0HP's range (log entry 9). -/
theorem params_w0hp_lt : params.w0hp < 16777216 := Config.w0hpCode.isLt

end Sys2Proof.Machine
end

