-- ==== Sys2Proof/Laws/Advance.lean ====
section
/-!
SUPPORT. What a cycle, the filters and an advance can do, once.
-/

namespace Sys2Proof.Machine

/-! ### Cycles -/

/-- Two runs of cycles in a row are one. -/
theorem State.cycles_eq_iterate (P : Params) (n : Nat) (s : State) : s.cycles P n = (State.cycle P)^[n] s := by
  induction n generalizing s with
  | zero => rfl
  | succ n ih => exact ih (s.cycle P)

/-- The oscillators and envelopes after a cycle depend on the voices and the chip type alone. -/
def voicesCycle (P : Params) (c : Chip) (x : Triple Osc × Triple Env) : Triple Osc × Triple Env :=
  (syncStep P (x.1.map (Osc.cycle P c)), x.2.map (Env.cycle P))

/-- A run of cycles changes the voices only. -/
theorem State.iterate_cycle (P : Params) (n : Nat) (s : State) :
    (State.cycle P)^[n] s =
      s.setVoices ((voicesCycle P s.chip)^[n] (s.osc, s.env)).1 ((voicesCycle P s.chip)^[n] (s.osc, s.env)).2 := by
  induction n with
  | zero => rfl
  | succ n ih => rw [Function.iterate_succ_apply', ih, Function.iterate_succ_apply']; rfl

/-- The envelope generators run on their own. -/
theorem State.iterate_cycle_env (P : Params) (n : Nat) (s : State) (v : VoiceId) :
    ((State.cycle P)^[n] s).env.get v = (Env.cycle P)^[n] (s.env.get v) := by
  induction n with
  | zero => rfl
  | succ n ih =>
    rw [Function.iterate_succ_apply', Function.iterate_succ_apply', ← ih]
    exact Triple.get_map _ _ _

@[simp] theorem syncStep_get (P : Params) (osc : Triple Osc) (v : VoiceId) :
    (syncStep P osc).get v = syncedOsc P osc v := by
  cases v <;> rfl

/-- An oscillator after a cycle of the block: its own cycle, with the accumulator perhaps zeroed by sync. -/
theorem State.cycle_osc (P : Params) (s : State) (v : VoiceId) :
    (s.cycle P).osc.get v = (s.osc.get v).cycle P s.chip ∨
      (s.cycle P).osc.get v = { (s.osc.get v).cycle P s.chip with acc := 0 } := by
  simp only [State.cycle, State.setVoices_osc, syncStep_get, syncedOsc, Triple.get_map]
  split
  · exact .inr rfl
  · exact .inl rfl

/-! ### The filters -/

/-- The coefficient of a one-cycle advance is at most its ceiling (42_filter R183). -/
theorem w0Ceil1_le (c : Chip) (fc : BitVec 11) : w0Ceil1 params c fc ≤ 105414 := Nat.min_le_right _ _

/-- The coefficient of a multi-cycle advance is at most its ceiling (42_filter R183). -/
theorem w0CeilDt_le (c : Chip) (fc : BitVec 11) : w0CeilDt params c fc ≤ 26353 := Nat.min_le_right _ _

/-- A filter step keeps the register fields and the bypass sum. -/
theorem svfStep_cases {P : Params} {site : OverflowSite} {w : Int} {k : Nat} {vi : Int} {f g : Filter}
    (h : svfStep P site w k vi f = .ok g) :
    g = { f with vbp := f.vbp - ((w * f.vhp) >>> k), vlp := f.vlp - ((w * f.vbp) >>> k)
                 vhp := (((f.vbp - ((w * f.vhp) >>> k)) * q1024 f.res) >>> (10 : Nat)) -
                   (f.vlp - ((w * f.vbp) >>> k)) - vi } ∧
      fits P g.vbp = true ∧ fits P g.vlp = true ∧ fits P g.vhp = true := by
  unfold svfStep at h
  simp only [bind_eq_ok, checked_eq_ok] at h
  obtain ⟨_, ⟨-, rfl⟩, _, ⟨-, rfl⟩, _, ⟨-, rfl⟩, _, ⟨-, rfl⟩, _, ⟨h1, rfl⟩, _, ⟨h2, rfl⟩, _, ⟨-, rfl⟩, _,
    ⟨-, rfl⟩, _, ⟨-, rfl⟩, _, ⟨h3, rfl⟩, h⟩ := h
  cases h
  exact ⟨rfl, h1, h2, h3⟩

/-- A sub-step of a multi-cycle advance is a filter step. -/
theorem svfSubStep_cases {P : Params} {c : Chip} {vi : Int} {f g : Filter} {d : Nat}
    (h : svfSubStep P c vi f d = .ok g) :
    svfStep P .r189 (((w0CeilDt P c f.fc : Int) * d) >>> (6 : Nat)) 14 vi f = .ok g := by
  unfold svfSubStep at h
  simp only [bind_eq_ok, checked_eq_ok] at h
  obtain ⟨_, ⟨-, rfl⟩, _, ⟨-, rfl⟩, h⟩ := h
  exact h

/-- What a filter keeps over any advance. -/
def Filter.sameRegs (f g : Filter) : Prop :=
  g.fc = f.fc ∧ g.res = f.res ∧ g.filt = f.filt ∧ g.mode = f.mode ∧ g.voice3off = f.voice3off ∧ g.vol = f.vol

/-- The filter's signed state is in range. -/
def Filter.fitsAll (P : Params) (f : Filter) : Prop :=
  fits P f.vhp = true ∧ fits P f.vbp = true ∧ fits P f.vlp = true ∧ fits P f.vnf = true

/-- The sub-steps keep the register fields and the bypass sum. -/
theorem svfSteps_sameRegs {P : Params} {c : Chip} {vi : Int} (ds : List Nat) {f g : Filter}
    (h : ds.foldlM (svfSubStep P c vi) f = .ok g) : f.sameRegs g ∧ g.vnf = f.vnf := by
  induction ds generalizing f with
  | nil =>
    simp only [List.foldlM_nil] at h
    cases h
    exact ⟨⟨rfl, rfl, rfl, rfl, rfl, rfl⟩, rfl⟩
  | cons d ds ih =>
    simp only [List.foldlM_cons] at h
    obtain ⟨f1, h1, h2⟩ := (bind_eq_ok _ _ _).1 h
    have hs := ih h2
    rw [(svfStep_cases (svfSubStep_cases h1)).1] at hs
    exact hs

/-- The sub-steps leave the signed state in range. -/
theorem svfSteps_fits {P : Params} {c : Chip} {vi : Int} (ds : List Nat) {f g : Filter}
    (hf : f.fitsAll P) (h : ds.foldlM (svfSubStep P c vi) f = .ok g) : g.fitsAll P := by
  induction ds generalizing f with
  | nil =>
    simp only [List.foldlM_nil] at h
    cases h
    exact hf
  | cons d ds ih =>
    simp only [List.foldlM_cons] at h
    obtain ⟨f1, h1, h2⟩ := (bind_eq_ok _ _ _).1 h
    obtain ⟨he, hbp, hlp, hhp⟩ := svfStep_cases (svfSubStep_cases h1)
    exact ih ⟨hhp, hbp, hlp, by rw [he]; exact hf.2.2.2⟩ h2

theorem checkedFold_fits {P : Params} {r : OverflowSite} (xs : List Int) {a y : Int} (ha : fits P a = true)
    (h : xs.foldlM (fun a x => checked P r (a + x)) a = Except.ok y) : fits P y = true := by
  induction xs generalizing a with
  | nil =>
    simp only [List.foldlM_nil] at h
    cases h
    exact ha
  | cons x xs ih =>
    simp only [List.foldlM_cons] at h
    obtain ⟨b, hb, hy⟩ := (bind_eq_ok _ _ _).1 h
    obtain ⟨hf, rfl⟩ := (checked_eq_ok _ _ _ _).1 hb
    exact ih hf hy

/-- A checked sum is in range. -/
theorem checkedSum_fits {P : Params} {r : OverflowSite} {xs : List Int} {y : Int}
    (h : checkedSum P r xs = .ok y) : fits P y = true :=
  checkedFold_fits xs (fits_zero P) h

/-- Routing gives a bypass sum in range. -/
theorem route_fits {P : Params} {f : Filter} {v0 v1 v2 x vi vnf : Int}
    (h : route P f v0 v1 v2 x = .ok (vi, vnf)) : fits P vnf = true := by
  unfold route at h
  simp only [bind_eq_ok] at h
  obtain ⟨_, -, a, -, b, hb, h⟩ := h
  cases h
  exact checkedSum_fits hb

/-- A filter advance keeps the register fields. -/
theorem filterAdvance_sameRegs {P : Params} {c : Chip} {cfg : Cfg} {n : Nat} {v0 v1 v2 : Int} {f g : Filter}
    (h : filterAdvance P c cfg n v0 v1 v2 f = .ok g) : f.sameRegs g := by
  unfold filterAdvance at h
  split at h
  · cases h
    exact ⟨rfl, rfl, rfl, rfl, rfl, rfl⟩
  · obtain ⟨⟨vi, vnf⟩, -, h⟩ := (bind_eq_ok _ _ _).1 h
    dsimp only at h
    split at h
    · split at h
      · rw [(svfStep_cases h).1]
        exact ⟨rfl, rfl, rfl, rfl, rfl, rfl⟩
      · exact (svfSteps_sameRegs _ h).1
    · obtain ⟨b, -, h⟩ := (bind_eq_ok _ _ _).1 h
      cases h
      exact ⟨rfl, rfl, rfl, rfl, rfl, rfl⟩

/-- A filter advance leaves the signed state in range. -/
theorem filterAdvance_fits {P : Params} {c : Chip} {cfg : Cfg} {n : Nat} {v0 v1 v2 : Int} {f g : Filter}
    (hf : f.fitsAll P) (h : filterAdvance P c cfg n v0 v1 v2 f = .ok g) : g.fitsAll P := by
  unfold filterAdvance at h
  split at h
  · cases h
    exact hf
  · obtain ⟨⟨vi, vnf⟩, hr, h⟩ := (bind_eq_ok _ _ _).1 h
    have hv := route_fits hr
    have hf' : Filter.fitsAll P { f with vnf := vnf } := ⟨hf.1, hf.2.1, hf.2.2.1, hv⟩
    dsimp only at h
    split at h
    · split at h
      · obtain ⟨he, hbp, hlp, hhp⟩ := svfStep_cases h
        exact ⟨hhp, hbp, hlp, by rw [he]; exact hv⟩
      · exact svfSteps_fits _ hf' h
    · obtain ⟨b, hb, h⟩ := (bind_eq_ok _ _ _).1 h
      obtain ⟨hb', rfl⟩ := (checked_eq_ok _ _ _ _).1 hb
      cases h
      exact ⟨fits_zero P, fits_zero P, fits_zero P, hb'⟩

/-- The external filter's state is in range. -/
def ExtFilter.fitsAll (P : Params) (e : ExtFilter) : Prop :=
  fits P e.vlp = true ∧ fits P e.vhp = true ∧ fits P e.vo = true

/-- A sub-step of the external filter: the latch, then both increments from the state before it. -/
theorem extSubStep_cases {P : Params} {vin : Int} {e g : ExtFilter} {d : Nat}
    (h : extSubStep P vin e d = .ok g) :
    g = { vo := e.vlp - e.vhp
          vlp := e.vlp + (((((P.w0lp : Int) * d) >>> (8 : Nat)) * (vin - e.vlp)) >>> (12 : Nat))
          vhp := e.vhp + (((P.w0hp : Int) * d * (e.vlp - e.vhp)) >>> (20 : Nat)) } ∧ g.fitsAll P := by
  unfold extSubStep at h
  simp only [bind_eq_ok, checked_eq_ok] at h
  obtain ⟨_, ⟨h1, rfl⟩, _, ⟨-, rfl⟩, _, ⟨-, rfl⟩, _, ⟨-, rfl⟩, _, ⟨-, rfl⟩, _, ⟨-, rfl⟩, _, ⟨-, rfl⟩, _,
    ⟨-, rfl⟩, _, ⟨-, rfl⟩, _, ⟨-, rfl⟩, _, ⟨h2, rfl⟩, _, ⟨h3, rfl⟩, h⟩ := h
  cases h
  exact ⟨rfl, h2, h3, h1⟩

theorem extSteps_fits {P : Params} {vin : Int} (ds : List Nat) {e g : ExtFilter} (he : e.fitsAll P)
    (h : ds.foldlM (extSubStep P vin) e = .ok g) : g.fitsAll P := by
  induction ds generalizing e with
  | nil =>
    simp only [List.foldlM_nil] at h
    cases h
    exact he
  | cons d ds ih =>
    simp only [List.foldlM_cons] at h
    obtain ⟨e1, h1, h2⟩ := (bind_eq_ok _ _ _).1 h
    exact ih (extSubStep_cases h1).2 h2

/-- An external-filter advance leaves the state in range. -/
theorem extAdvance_fits {P : Params} {c : Chip} {cfg : Cfg} {n : Nat} {vin : Int} {e g : ExtFilter}
    (he : e.fitsAll P) (h : extAdvance P c cfg n vin e = .ok g) : g.fitsAll P := by
  unfold extAdvance at h
  split at h
  · cases h
    exact he
  · split at h
    · exact extSteps_fits _ he h
    · simp only [bind_eq_ok, checked_eq_ok] at h
      obtain ⟨_, ⟨-, rfl⟩, _, ⟨h1, rfl⟩, h⟩ := h
      cases h
      exact ⟨fits_zero P, fits_zero P, h1⟩

/-! ### Advance -/

/-- What an advance of `n` cycles without the write pipeline does when nothing overflows. -/
theorem State.advanceCore_cases {P : Params} {n : Nat} {s t : State} (h : s.advanceCore P n = .ok t) :
    ∃ v0 v1 v2 flt vin ext,
      voiceOutOf P s.chip ((State.cycle P)^[n] s).osc ((State.cycle P)^[n] s).env .v0 = .ok v0 ∧
      voiceOutOf P s.chip ((State.cycle P)^[n] s).osc ((State.cycle P)^[n] s).env .v1 = .ok v1 ∧
      voiceOutOf P s.chip ((State.cycle P)^[n] s).osc ((State.cycle P)^[n] s).env .v2 = .ok v2 ∧
      filterAdvance P s.chip s.cfg n v0 v1 v2 s.flt = .ok flt ∧
      filterOutput P s.chip s.cfg flt = .ok vin ∧
      extAdvance P s.chip s.cfg n vin s.ext = .ok ext ∧
      t = { (State.cycle P)^[n] s with flt := flt, ext := ext } := by
  simp only [State.advanceCore, bind_eq_ok, State.cycles_eq_iterate] at h
  rw [State.iterate_cycle] at h ⊢
  obtain ⟨v0, h0, v1, h1, v2, h2, flt, hf, vin, hv, ext, he, h⟩ := h
  cases h
  exact ⟨v0, v1, v2, flt, vin, ext, h0, h1, h2, hf, hv, he, rfl⟩

/-- What an advance without the write pipeline leaves unchanged. -/
theorem State.advanceCore_frame {P : Params} {n : Nat} {s t : State} (h : s.advanceCore P n = .ok t) :
    t.chip = s.chip ∧ t.cfg = s.cfg ∧ t.fault = s.fault ∧ t.refused = s.refused ∧ t.stream = s.stream ∧
      t.pc = s.pc ∧ t.result = s.result ∧ t.shadow = s.shadow ∧ t.pending = s.pending ∧
      t.lastBus = s.lastBus ∧ s.flt.sameRegs t.flt := by
  obtain ⟨_, _, _, _, _, _, -, -, -, hf, -, -, rfl⟩ := State.advanceCore_cases h
  rw [State.iterate_cycle]
  exact ⟨rfl, rfl, rfl, rfl, rfl, rfl, rfl, rfl, rfl, rfl, filterAdvance_sameRegs hf⟩

/-- The parts of an advance without the write pipeline put it together. -/
theorem State.advanceCore_of_parts {P : Params} {n : Nat} {s : State} {v0 v1 v2 vin : Int} {flt : Filter}
    {ext : ExtFilter}
    (h0 : voiceOutOf P s.chip ((State.cycle P)^[n] s).osc ((State.cycle P)^[n] s).env .v0 = .ok v0)
    (h1 : voiceOutOf P s.chip ((State.cycle P)^[n] s).osc ((State.cycle P)^[n] s).env .v1 = .ok v1)
    (h2 : voiceOutOf P s.chip ((State.cycle P)^[n] s).osc ((State.cycle P)^[n] s).env .v2 = .ok v2)
    (hf : filterAdvance P s.chip s.cfg n v0 v1 v2 s.flt = .ok flt)
    (hv : filterOutput P s.chip s.cfg flt = .ok vin)
    (he : extAdvance P s.chip s.cfg n vin s.ext = .ok ext) :
    s.advanceCore P n = .ok { (State.cycle P)^[n] s with flt := flt, ext := ext } := by
  simp only [State.advanceCore, bind_eq_ok, State.cycles_eq_iterate]
  rw [State.iterate_cycle] at h0 h1 h2 ⊢
  exact ⟨v0, h0, v1, h1, v2, h2, flt, hf, vin, hv, ext, he, rfl⟩

/-- An overflow of the filter's arithmetic is the overflow of the advance. -/
theorem State.advanceCore_of_filter_error {P : Params} {n : Nat} {s : State} {v0 v1 v2 : Int} {f : Fault}
    (h0 : voiceOutOf P s.chip ((State.cycle P)^[n] s).osc ((State.cycle P)^[n] s).env .v0 = .ok v0)
    (h1 : voiceOutOf P s.chip ((State.cycle P)^[n] s).osc ((State.cycle P)^[n] s).env .v1 = .ok v1)
    (h2 : voiceOutOf P s.chip ((State.cycle P)^[n] s).osc ((State.cycle P)^[n] s).env .v2 = .ok v2)
    (hf : filterAdvance P s.chip s.cfg n v0 v1 v2 s.flt = .error f) :
    s.advanceCore P n = .error f := by
  unfold State.advanceCore
  rw [State.cycles_eq_iterate]
  rw [State.iterate_cycle] at h0 h1 h2 ⊢
  simp only [State.setVoices_chip, State.setVoices_cfg, State.setVoices_flt] at *
  rw [h0, ok_bind, h1, ok_bind, h2, ok_bind, hf, error_bind]

/-- An advance without overflow: nothing for 0 cycles, the cycles and filters with no held write, and with one
the write after the first cycle. -/
theorem State.advanceChecked_cases {P : Params} {n : Nat} {s t : State} (h : s.advanceChecked P n = .ok t) :
    (n = 0 ∧ t = s) ∨ (1 ≤ n ∧ s.pending = none ∧ s.advanceCore P n = .ok t) ∨
    (∃ w s1, s.pending = some w ∧ s.advanceCore P 1 = .ok s1 ∧
      ((n = 1 ∧ t = (s1.apply P w.addr w.data).setPending none) ∨
       (2 ≤ n ∧ ((s1.apply P w.addr w.data).setPending none).advanceCore P (n - 1) = .ok t))) := by
  unfold State.advanceChecked at h
  split at h
  · cases h
    exact .inl ⟨by assumption, rfl⟩
  · split at h
    · next hp => exact .inr (.inl ⟨by omega, hp, h⟩)
    · next w hp =>
      obtain ⟨s1, h1, h⟩ := (bind_eq_ok _ _ _).1 h
      refine .inr (.inr ⟨w, s1, hp, h1, ?_⟩)
      dsimp only at h
      split at h
      · cases h
        exact .inl ⟨by assumption, rfl⟩
      · exact .inr ⟨by omega, h⟩

/-- ADVANCE on a live block: its result, or the block before it with the fault mark. -/
theorem State.advanceOp_cases {P : Params} {n : Nat} {s t : State} (hf : s.fault = none)
    (h : s.advanceOp P n = t) :
    s.advanceChecked P n = .ok t ∨
      (∃ f, s.advanceChecked P n = .error f ∧ t = { s with fault := some f }) := by
  unfold State.advanceOp at h
  cases hc : s.advanceChecked P n with
  | ok u =>
    rw [hc] at h
    exact .inl (congrArg Except.ok h)
  | error f =>
    rw [hc] at h
    exact .inr ⟨f, rfl, by rw [← h, State.orRaise_error, State.raise_live s f hf]⟩

/-- ADVANCE keeps chip type and configuration, whatever it computes. -/
theorem State.advanceOp_frame (P : Params) (n : Nat) (s : State) (hf : s.fault = none) :
    (s.advanceOp P n).chip = s.chip ∧ (s.advanceOp P n).cfg = s.cfg := by
  rcases State.advanceOp_cases hf (rfl : s.advanceOp P n = _) with h | ⟨f, -, h⟩
  · rcases State.advanceChecked_cases h with ⟨-, h⟩ | ⟨-, -, h⟩ | ⟨w, s1, -, h1, h2⟩
    · rw [h]
      exact ⟨rfl, rfl⟩
    · have hc := State.advanceCore_frame h
      exact ⟨hc.1, hc.2.1⟩
    · have hc := State.advanceCore_frame h1
      rcases h2 with ⟨-, h2⟩ | ⟨-, h2⟩
      · rw [h2]
        simp [hc.1, hc.2.1]
      · have hd := State.advanceCore_frame h2
        rw [hd.1, hd.2.1]
        simp [hc.1, hc.2.1]
  · rw [h]
    exact ⟨rfl, rfl⟩

/-- AUDIO_OUTPUT keeps the filters, chip type and configuration, whatever it computes. -/
theorem State.audioOutputOp_frame (P : Params) (s : State) (b : Nat) :
    (s.audioOutputOp P b).flt = s.flt ∧ (s.audioOutputOp P b).ext = s.ext ∧
      (s.audioOutputOp P b).cfg = s.cfg ∧ (s.audioOutputOp P b).chip = s.chip := by
  unfold State.audioOutputOp
  split
  · exact State.refuse_frame s _
  · unfold State.orRaise
    split
    · next h =>
      obtain ⟨x, -, h⟩ := (bind_eq_ok _ _ _).1 h
      cases h
      exact ⟨rfl, rfl, rfl, rfl⟩
    · exact State.raise_frame s _

/-- An overflow changes nothing but the fault mark. -/
theorem State.advanceOp_of_error {P : Params} {n : Nat} {s : State} {f : Fault} (hf : s.fault = none)
    (h : s.advanceChecked P n = .error f) : s.advanceOp P n = { s with fault := some f } := by
  rw [State.advanceOp, h, State.orRaise_error, State.raise_live s f hf]

/-- An arithmetic shift right keeps a symmetric bound. -/
theorem shiftRight_bounds (x b : Int) (k : Nat) (hb : 0 ≤ b) (h1 : -b ≤ x) (h2 : x ≤ b) :
    -b ≤ x >>> k ∧ x >>> k ≤ b := by
  rw [Int.shiftRight_eq_div_pow]
  have hp : (1 : Int) ≤ ((2 ^ k : Nat) : Int) := by exact_mod_cast Nat.one_le_two_pow
  generalize ((2 ^ k : Nat) : Int) = p at *
  constructor
  · rw [Int.le_ediv_iff_mul_le (by linarith)]
    nlinarith
  · apply Int.ediv_le_of_le_mul (by linarith)
    nlinarith

/-! ### The voice output of this machine -/

/-- The voice output never overflows on this machine (log entry 9). -/
theorem fits_voice (c : Chip) (x : BitVec 12) (k : Byte) :
    fits params (params.waveDac c x) = true ∧ fits params (params.waveZero c) = true ∧
    fits params (params.waveDac c x - params.waveZero c) = true ∧ fits params (params.envDac c k) = true ∧
    fits params ((params.waveDac c x - params.waveZero c) * params.envDac c k) = true := by
  have h1 := params_waveDac_bounds c x
  have h2 := params_waveZero_bounds c
  have h3 := params_envDac_bounds c k
  generalize params.waveDac c x = a at *
  generalize params.waveZero c = z at *
  generalize params.envDac c k = e at *
  simp only [fits_params]
  refine ⟨by omega, by omega, by omega, by omega, ?_, ?_⟩ <;> nlinarith

/-- The voice output has a value, and its range is that of the open numbers (log entry 9). -/
theorem voiceOutOf_bounds (c : Chip) (osc : Triple Osc) (env : Triple Env) (v : VoiceId) :
    ∃ x, voiceOutOf params c osc env v = .ok x ∧ -2097152 ≤ x ∧ x ≤ 2097152 := by
  obtain ⟨h1, h2, h3, h4, h5⟩ := fits_voice c (oscOutput params c osc v) (env.get v).cnt
  have b1 := params_waveDac_bounds c (oscOutput params c osc v)
  have b2 := params_waveZero_bounds c
  have b3 := params_envDac_bounds c (env.get v).cnt
  have h0 : params.voiceDc c = 0 := rfl
  refine ⟨(params.waveDac c (oscOutput params c osc v) - params.waveZero c) *
    params.envDac c (env.get v).cnt, ?_, ?_⟩
  · unfold voiceOutOf voiceOut
    rw [checked_of_fits _ _ _ h1, ok_bind, checked_of_fits _ _ _ h2, ok_bind, checked_of_fits _ _ _ h3, ok_bind,
      checked_of_fits _ _ _ h4, ok_bind, checked_of_fits _ _ _ h5, ok_bind, h0,
      checked_of_fits _ _ _ (fits_zero params), ok_bind, Int.add_zero, checked_of_fits _ _ _ h5]
  · generalize params.waveDac c (oscOutput params c osc v) = a at *
    generalize params.waveZero c = z at *
    generalize params.envDac c (env.get v).cnt = e at *
    constructor <;> nlinarith

/-- Routing has a value for inputs in the range of the external input (45_chip R259). -/
theorem route_of_bounds (f : Filter) (v0 v1 v2 x : Int) (h0 : -134217728 ≤ v0 ∧ v0 ≤ 134217728)
    (h1 : -134217728 ≤ v1 ∧ v1 ≤ 134217728) (h2 : -134217728 ≤ v2 ∧ v2 ≤ 134217728)
    (hx : -134217728 ≤ x ∧ x ≤ 134217728) :
    ∃ vi vnf, route params f v0 v1 v2 x = .ok (vi, vnf) ∧ -536870912 ≤ vi ∧ vi ≤ 536870912 ∧
      -536870912 ≤ vnf ∧ vnf ≤ 536870912 := by
  have s0 := shiftRight_bounds v0 134217728 params.filterInShift (by norm_num) h0.1 h0.2
  have s1 := shiftRight_bounds v1 134217728 params.filterInShift (by norm_num) h1.1 h1.2
  have s2 := shiftRight_bounds v2 134217728 params.filterInShift (by norm_num) h2.1 h2.2
  have sx := shiftRight_bounds x 134217728 params.filterInShift (by norm_num) hx.1 hx.2
  unfold route routeInputs
  generalize v0 >>> params.filterInShift = i0 at *
  generalize v1 >>> params.filterInShift = i1 at *
  generalize hi2 : (if (f.voice3off && !f.filt.getLsbD 2) = true then (0 : Int)
    else v2 >>> params.filterInShift) = i2
  have s2' : -134217728 ≤ i2 ∧ i2 ≤ 134217728 := by
    rw [← hi2]
    split
    · omega
    · exact s2
  generalize x >>> params.filterInShift = ix at *
  rw [checked_of_fits _ _ i0 (by rw [fits_params]; omega), ok_bind,
    checked_of_fits _ _ i1 (by rw [fits_params]; omega), ok_bind,
    checked_of_fits _ _ i2 (by rw [fits_params]; omega), ok_bind,
    checked_of_fits _ _ ix (by rw [fits_params]; omega), ok_bind]
  have key : ∀ p : Bool × Int → Bool, ∃ y,
      checkedSum params .r186 (([(f.filt.getLsbD 0, i0), (f.filt.getLsbD 1, i1), (f.filt.getLsbD 2, i2),
        (f.filt.getLsbD 3, ix)].filter p).map Prod.snd) = .ok y ∧ -536870912 ≤ y ∧ y ≤ 536870912 := by
    intro p
    refine ⟨_, checkedSum_of_bounds .r186 134217728 _ (by norm_num) ?_ ?_, ?_⟩
    · intro y hy
      obtain ⟨q, hq, rfl⟩ := List.mem_map.1 hy
      have hm := List.mem_of_mem_filter hq
      simp only [List.mem_cons, List.not_mem_nil, or_false] at hm
      rcases hm with rfl | rfl | rfl | rfl
      · exact s0
      · exact s1
      · exact s2'
      · exact sx
    · have hl := List.length_filter_le p [(f.filt.getLsbD 0, i0), (f.filt.getLsbD 1, i1),
        (f.filt.getLsbD 2, i2), (f.filt.getLsbD 3, ix)]
      rw [List.length_map]
      simp only [List.length_cons, List.length_nil] at hl
      omega
    · simp only [List.filter]
      split <;> split <;> split <;> split <;> simp <;> omega
  obtain ⟨vi, e1, b1, b2⟩ := key (fun p => p.1)
  obtain ⟨vnf, e2, b3, b4⟩ := key (fun p => !p.1)
  refine ⟨vi, vnf, ?_, b1, b2, b3, b4⟩
  change (checkedSum params .r186 _ >>= _) = _
  rw [e1, ok_bind, e2, ok_bind]
  rfl

end Sys2Proof.Machine
end

