-- ==== Sys2Proof/Laws/Exec.lean ====
section
/-!
SUPPORT. What exec can do, once: every operation ends in the unchanged state or in its shared operation's
result.
-/

namespace Sys2Proof.Machine

/-- What an instruction does to a live block: the shared operation it calls. -/
inductive Effect (s : State) : Instr → State → Prop where
  | write (i : Instr) (a : Addr) (d : Byte) : Effect s i (s.writeInRange params a d)
  | ignored (i : Instr) : Effect s i s
  | read (i : Instr) (a : Addr) : Effect s i (s.setResult (.byte (s.readValue params a)))
  | refused (i : Instr) (a : Byte) : Effect s i (s.refuse (.readOutOfRange a.toNat))
  | advance (n : Nat) : Effect s (.advance n) (s.advanceOp params n)
  | reset : Effect s .reset (s.resetOp params)
  | setChipType (c : Chip) : Effect s (.setChipType c) (s.setChipTypeOp params c)
  | setFilterEnable (e : Bool) : Effect s (.setFilterEnable e) (s.setFilterEnableOp e)
  | setExtEnable (e : Bool) : Effect s (.setExtEnable e) (s.setExtEnableOp e)
  | setExtInput (x : Int) : Effect s (.setExtInput x) (s.setExtInputOp x)
  | audioOutput (b : Nat) : Effect s (.audioOutput b) (s.audioOutputOp params b)

/-- A write of any 8-bit address is one of the register space or is ignored. -/
theorem Effect.ofWrite (s : State) (i : Instr) (a d : Byte) : Effect s i (s.write params a d) := by
  unfold State.write
  split
  · exact .ignored i
  · exact .write i _ d

/-- A read of any 8-bit address is one of the register space or is refused. -/
theorem Effect.ofRead (s : State) (i : Instr) (a : Byte) : Effect s i (s.readOp params a) := by
  unfold State.readOp
  split
  · exact .refused i a
  · exact .read i _

/-- A quiescent block is unchanged, and a live one has the instruction's effect. -/
theorem exec_cases {i : Instr} {s t : State} (h : exec i s = .next t) :
    (s.quiescent = true ∧ t = s) ∨ (s.live ∧ Effect s i t) := by
  have key : ∀ u : State, afterOp s u = .next t → Effect s i u →
      (s.quiescent = true ∧ t = s) ∨ (s.live ∧ Effect s i t) := by
    intro u hu he
    rcases afterOp_cases hu with h1 | ⟨hq, rfl⟩
    · exact .inl h1
    · exact .inr ⟨(State.quiescent_eq_false s).1 hq, he⟩
  cases i with
  | advance n => exact key _ h (.advance n)
  | reset => exact key _ h .reset
  | setChipType c => exact key _ h (.setChipType c)
  | setFilterEnable e => exact key _ h (.setFilterEnable e)
  | setExtEnable e => exact key _ h (.setExtEnable e)
  | setExtInput x => exact key _ h (.setExtInput x)
  | audioOutput b => exact key _ h (.audioOutput b)
  | _ => first
    | exact key _ h (Effect.ofWrite s _ _ _)
    | exact key _ h (Effect.ofRead s _ _)

end Sys2Proof.Machine
end

