-- ==== Sys2Proof/Laws/PerInstr.lean ====
section
/-!
SUPPORT. Every instruction's word against its row of opcode_table.json: the fixed bits of the row (its mask)
have the row's values (its match).
-/

namespace Sys2Proof.Laws.TableRow

/-- The mask of the instruction's row: the bits the row fixes. -/
def mask : Instr → Word
  | .writeV0FreqLo _ => 0xFFFFFF00
  | .writeV0FreqHi _ => 0xFFFFFF00
  | .writeV0PwLo _ => 0xFFFFFF00
  | .writeV0PwHi _ => 0xFFFFFF00
  | .writeV0Control _ => 0xFFFFFF00
  | .writeV0Ad _ => 0xFFFFFF00
  | .writeV0Sr _ => 0xFFFFFF00
  | .writeV1FreqLo _ => 0xFFFFFF00
  | .writeV1FreqHi _ => 0xFFFFFF00
  | .writeV1PwLo _ => 0xFFFFFF00
  | .writeV1PwHi _ => 0xFFFFFF00
  | .writeV1Control _ => 0xFFFFFF00
  | .writeV1Ad _ => 0xFFFFFF00
  | .writeV1Sr _ => 0xFFFFFF00
  | .writeV2FreqLo _ => 0xFFFFFF00
  | .writeV2FreqHi _ => 0xFFFFFF00
  | .writeV2PwLo _ => 0xFFFFFF00
  | .writeV2PwHi _ => 0xFFFFFF00
  | .writeV2Control _ => 0xFFFFFF00
  | .writeV2Ad _ => 0xFFFFFF00
  | .writeV2Sr _ => 0xFFFFFF00
  | .writeFcLo _ => 0xFFFFFF00
  | .writeFcHi _ => 0xFFFFFF00
  | .writeResFilt _ => 0xFFFFFF00
  | .writeModeVol _ => 0xFFFFFF00
  | .writeUnmapped19 _ => 0xFFFFFF00
  | .writeUnmapped1A _ => 0xFFFFFF00
  | .writeUnmapped1B _ => 0xFFFFFF00
  | .writeUnmapped1C _ => 0xFFFFFF00
  | .writeUnmapped1D _ => 0xFFFFFF00
  | .writeUnmapped1E _ => 0xFFFFFF00
  | .writeUnmapped1F _ => 0xFFFFFF00
  | .writeOutOfRange20 _ _ => 0xFFFFE000
  | .writeOutOfRange40 _ _ => 0xFFFFC000
  | .writeOutOfRange80 _ _ => 0xFFFF8000
  | .read00 => 0xFFFFFFFF
  | .read01 => 0xFFFFFFFF
  | .read02 => 0xFFFFFFFF
  | .read03 => 0xFFFFFFFF
  | .read04 => 0xFFFFFFFF
  | .read05 => 0xFFFFFFFF
  | .read06 => 0xFFFFFFFF
  | .read07 => 0xFFFFFFFF
  | .read08 => 0xFFFFFFFF
  | .read09 => 0xFFFFFFFF
  | .read0A => 0xFFFFFFFF
  | .read0B => 0xFFFFFFFF
  | .read0C => 0xFFFFFFFF
  | .read0D => 0xFFFFFFFF
  | .read0E => 0xFFFFFFFF
  | .read0F => 0xFFFFFFFF
  | .read10 => 0xFFFFFFFF
  | .read11 => 0xFFFFFFFF
  | .read12 => 0xFFFFFFFF
  | .read13 => 0xFFFFFFFF
  | .read14 => 0xFFFFFFFF
  | .read15 => 0xFFFFFFFF
  | .read16 => 0xFFFFFFFF
  | .read17 => 0xFFFFFFFF
  | .read18 => 0xFFFFFFFF
  | .read19 => 0xFFFFFFFF
  | .read1A => 0xFFFFFFFF
  | .readOsc3 => 0xFFFFFFFF
  | .readEnv3 => 0xFFFFFFFF
  | .read1D => 0xFFFFFFFF
  | .read1E => 0xFFFFFFFF
  | .read1F => 0xFFFFFFFF
  | .readOutOfRange20 _ => 0xFFFFE0FF
  | .readOutOfRange40 _ => 0xFFFFC0FF
  | .readOutOfRange80 _ => 0xFFFF80FF
  | .advance _ => 0xF0000000
  | .reset => 0xFFFFFFFF
  | .setChipType _ => 0xFFFFFFFE
  | .setFilterEnable _ => 0xFFFFFFFE
  | .setExtEnable _ => 0xFFFFFFFE
  | .setExtInput _ => 0xF0000000
  | .audioOutput _ => 0xFFFFFFC0

/-- The match of the instruction's row: the values of the fixed bits. -/
def matched : Instr → Word
  | .writeV0FreqLo _ => 0x00000000
  | .writeV0FreqHi _ => 0x00000100
  | .writeV0PwLo _ => 0x00000200
  | .writeV0PwHi _ => 0x00000300
  | .writeV0Control _ => 0x00000400
  | .writeV0Ad _ => 0x00000500
  | .writeV0Sr _ => 0x00000600
  | .writeV1FreqLo _ => 0x00000700
  | .writeV1FreqHi _ => 0x00000800
  | .writeV1PwLo _ => 0x00000900
  | .writeV1PwHi _ => 0x00000A00
  | .writeV1Control _ => 0x00000B00
  | .writeV1Ad _ => 0x00000C00
  | .writeV1Sr _ => 0x00000D00
  | .writeV2FreqLo _ => 0x00000E00
  | .writeV2FreqHi _ => 0x00000F00
  | .writeV2PwLo _ => 0x00001000
  | .writeV2PwHi _ => 0x00001100
  | .writeV2Control _ => 0x00001200
  | .writeV2Ad _ => 0x00001300
  | .writeV2Sr _ => 0x00001400
  | .writeFcLo _ => 0x00001500
  | .writeFcHi _ => 0x00001600
  | .writeResFilt _ => 0x00001700
  | .writeModeVol _ => 0x00001800
  | .writeUnmapped19 _ => 0x00001900
  | .writeUnmapped1A _ => 0x00001A00
  | .writeUnmapped1B _ => 0x00001B00
  | .writeUnmapped1C _ => 0x00001C00
  | .writeUnmapped1D _ => 0x00001D00
  | .writeUnmapped1E _ => 0x00001E00
  | .writeUnmapped1F _ => 0x00001F00
  | .writeOutOfRange20 _ _ => 0x00002000
  | .writeOutOfRange40 _ _ => 0x00004000
  | .writeOutOfRange80 _ _ => 0x00008000
  | .read00 => 0x10000000
  | .read01 => 0x10000100
  | .read02 => 0x10000200
  | .read03 => 0x10000300
  | .read04 => 0x10000400
  | .read05 => 0x10000500
  | .read06 => 0x10000600
  | .read07 => 0x10000700
  | .read08 => 0x10000800
  | .read09 => 0x10000900
  | .read0A => 0x10000A00
  | .read0B => 0x10000B00
  | .read0C => 0x10000C00
  | .read0D => 0x10000D00
  | .read0E => 0x10000E00
  | .read0F => 0x10000F00
  | .read10 => 0x10001000
  | .read11 => 0x10001100
  | .read12 => 0x10001200
  | .read13 => 0x10001300
  | .read14 => 0x10001400
  | .read15 => 0x10001500
  | .read16 => 0x10001600
  | .read17 => 0x10001700
  | .read18 => 0x10001800
  | .read19 => 0x10001900
  | .read1A => 0x10001A00
  | .readOsc3 => 0x10001B00
  | .readEnv3 => 0x10001C00
  | .read1D => 0x10001D00
  | .read1E => 0x10001E00
  | .read1F => 0x10001F00
  | .readOutOfRange20 _ => 0x10002000
  | .readOutOfRange40 _ => 0x10004000
  | .readOutOfRange80 _ => 0x10008000
  | .advance _ => 0x20000000
  | .reset => 0x30000000
  | .setChipType _ => 0x40000000
  | .setFilterEnable _ => 0x50000000
  | .setExtEnable _ => 0x60000000
  | .setExtInput _ => 0x70000000
  | .audioOutput _ => 0x80000000

/-- The word of a well-formed instruction has its row's fixed bits. -/
def Statement (i : Instr) : Prop := i.wellFormed = true → encode i &&& mask i = matched i

theorem fields_fixed (k mk : BitVec 4) (r mr : BitVec 12) (a ma d md : Byte) :
    ((k ++ r ++ a ++ d) &&& (mk ++ mr ++ ma ++ md) : BitVec (4 + 12 + 8 + 8)) =
      (k &&& mk) ++ (r &&& mr) ++ (a &&& ma) ++ (d &&& md) := by
  simp only [BitVec.and_append]

theorem write_fixed (a d : Byte) : encodeWrite a d &&& 0xFFFFFF00 = encodeWrite a 0 := by
  refine (fields_fixed 0x0 0xF 0 0xFFF a 0xFF d 0x00).trans ?_
  rw [show a &&& 0xFF = a from BitVec.and_allOnes, show d &&& 0x00 = 0 from BitVec.and_zero]
  rfl

theorem writeRange_fixed (a d m : Byte) :
    encodeWrite a d &&& (0xF#4 ++ 0xFFF#12 ++ m ++ 0x00#8) = encodeWrite (a &&& m) 0 := by
  refine (fields_fixed 0x0 0xF 0 0xFFF a m d 0x00).trans ?_
  rw [show d &&& 0x00 = 0 from BitVec.and_zero]
  rfl

theorem read_fixed (a m : Byte) :
    encodeRead a &&& (0xF#4 ++ 0xFFF#12 ++ m ++ 0xFF#8) = encodeRead (a &&& m) :=
  fields_fixed 0x1 0xF 0 0xFFF a m 0 0xFF

theorem operand_fixed (k : BitVec 4) (x : BitVec 28) :
    ((k ++ x) &&& (0xF#4 ++ 0#28) : BitVec (4 + 28)) = k ++ 0#28 := by
  rw [BitVec.and_append, show k &&& 0xF#4 = k from BitVec.and_allOnes, BitVec.and_zero]

theorem wide_fixed (k : BitVec 4) (x : BitVec 28) : encodeWide k x &&& 0xF0000000 = k ++ 0#28 :=
  operand_fixed k x

theorem width_fixed (b : BitVec 6) :
    ((0x8#4 ++ 0#22 ++ b) &&& (0xF#4 ++ 0x3FFFFF#22 ++ 0#6) : BitVec (4 + 22 + 6)) = 0x80000000#32 := by
  rw [BitVec.and_append, BitVec.and_zero]
  rfl

theorem low_range (a : Byte) (h : 0x20 ≤ a.toNat ∧ a.toNat ≤ 0x3F) : a &&& 0xE0 = 0x20 := by
  revert a
  decide

theorem mid_range (a : Byte) (h : 0x40 ≤ a.toNat ∧ a.toNat ≤ 0x7F) : a &&& 0xC0 = 0x40 := by
  revert a
  decide

theorem high_range (a : Byte) (h : 0x80 ≤ a.toNat ∧ a.toNat ≤ 0xFF) : a &&& 0x80 = 0x80 := by
  revert a
  decide

theorem writeV0FreqLo (d : Byte) : Statement (.writeV0FreqLo d) :=
  fun _ => write_fixed 0x00 d

theorem writeV0FreqHi (d : Byte) : Statement (.writeV0FreqHi d) :=
  fun _ => write_fixed 0x01 d

theorem writeV0PwLo (d : Byte) : Statement (.writeV0PwLo d) :=
  fun _ => write_fixed 0x02 d

theorem writeV0PwHi (d : Byte) : Statement (.writeV0PwHi d) :=
  fun _ => write_fixed 0x03 d

theorem writeV0Control (d : Byte) : Statement (.writeV0Control d) :=
  fun _ => write_fixed 0x04 d

theorem writeV0Ad (d : Byte) : Statement (.writeV0Ad d) :=
  fun _ => write_fixed 0x05 d

theorem writeV0Sr (d : Byte) : Statement (.writeV0Sr d) :=
  fun _ => write_fixed 0x06 d

theorem writeV1FreqLo (d : Byte) : Statement (.writeV1FreqLo d) :=
  fun _ => write_fixed 0x07 d

theorem writeV1FreqHi (d : Byte) : Statement (.writeV1FreqHi d) :=
  fun _ => write_fixed 0x08 d

theorem writeV1PwLo (d : Byte) : Statement (.writeV1PwLo d) :=
  fun _ => write_fixed 0x09 d

theorem writeV1PwHi (d : Byte) : Statement (.writeV1PwHi d) :=
  fun _ => write_fixed 0x0A d

theorem writeV1Control (d : Byte) : Statement (.writeV1Control d) :=
  fun _ => write_fixed 0x0B d

theorem writeV1Ad (d : Byte) : Statement (.writeV1Ad d) :=
  fun _ => write_fixed 0x0C d

theorem writeV1Sr (d : Byte) : Statement (.writeV1Sr d) :=
  fun _ => write_fixed 0x0D d

theorem writeV2FreqLo (d : Byte) : Statement (.writeV2FreqLo d) :=
  fun _ => write_fixed 0x0E d

theorem writeV2FreqHi (d : Byte) : Statement (.writeV2FreqHi d) :=
  fun _ => write_fixed 0x0F d

theorem writeV2PwLo (d : Byte) : Statement (.writeV2PwLo d) :=
  fun _ => write_fixed 0x10 d

theorem writeV2PwHi (d : Byte) : Statement (.writeV2PwHi d) :=
  fun _ => write_fixed 0x11 d

theorem writeV2Control (d : Byte) : Statement (.writeV2Control d) :=
  fun _ => write_fixed 0x12 d

theorem writeV2Ad (d : Byte) : Statement (.writeV2Ad d) :=
  fun _ => write_fixed 0x13 d

theorem writeV2Sr (d : Byte) : Statement (.writeV2Sr d) :=
  fun _ => write_fixed 0x14 d

theorem writeFcLo (d : Byte) : Statement (.writeFcLo d) :=
  fun _ => write_fixed 0x15 d

theorem writeFcHi (d : Byte) : Statement (.writeFcHi d) :=
  fun _ => write_fixed 0x16 d

theorem writeResFilt (d : Byte) : Statement (.writeResFilt d) :=
  fun _ => write_fixed 0x17 d

theorem writeModeVol (d : Byte) : Statement (.writeModeVol d) :=
  fun _ => write_fixed 0x18 d

theorem writeUnmapped19 (d : Byte) : Statement (.writeUnmapped19 d) :=
  fun _ => write_fixed 0x19 d

theorem writeUnmapped1A (d : Byte) : Statement (.writeUnmapped1A d) :=
  fun _ => write_fixed 0x1A d

theorem writeUnmapped1B (d : Byte) : Statement (.writeUnmapped1B d) :=
  fun _ => write_fixed 0x1B d

theorem writeUnmapped1C (d : Byte) : Statement (.writeUnmapped1C d) :=
  fun _ => write_fixed 0x1C d

theorem writeUnmapped1D (d : Byte) : Statement (.writeUnmapped1D d) :=
  fun _ => write_fixed 0x1D d

theorem writeUnmapped1E (d : Byte) : Statement (.writeUnmapped1E d) :=
  fun _ => write_fixed 0x1E d

theorem writeUnmapped1F (d : Byte) : Statement (.writeUnmapped1F d) :=
  fun _ => write_fixed 0x1F d

theorem writeOutOfRange20 (a : Byte) (d : Byte) : Statement (.writeOutOfRange20 a d) := by
  intro h
  have hr : a &&& 0xE0 = _ := low_range a (by simpa [Instr.wellFormed] using h)
  have hm := writeRange_fixed a d 0xE0
  rw [hr] at hm
  exact hm

theorem writeOutOfRange40 (a : Byte) (d : Byte) : Statement (.writeOutOfRange40 a d) := by
  intro h
  have hr : a &&& 0xC0 = _ := mid_range a (by simpa [Instr.wellFormed] using h)
  have hm := writeRange_fixed a d 0xC0
  rw [hr] at hm
  exact hm

theorem writeOutOfRange80 (a : Byte) (d : Byte) : Statement (.writeOutOfRange80 a d) := by
  intro h
  have hr : a &&& 0x80 = _ := high_range a (by simpa [Instr.wellFormed] using h)
  have hm := writeRange_fixed a d 0x80
  rw [hr] at hm
  exact hm

theorem read00 : Statement (.read00) :=
  fun _ => rfl

theorem read01 : Statement (.read01) :=
  fun _ => rfl

theorem read02 : Statement (.read02) :=
  fun _ => rfl

theorem read03 : Statement (.read03) :=
  fun _ => rfl

theorem read04 : Statement (.read04) :=
  fun _ => rfl

theorem read05 : Statement (.read05) :=
  fun _ => rfl

theorem read06 : Statement (.read06) :=
  fun _ => rfl

theorem read07 : Statement (.read07) :=
  fun _ => rfl

theorem read08 : Statement (.read08) :=
  fun _ => rfl

theorem read09 : Statement (.read09) :=
  fun _ => rfl

theorem read0A : Statement (.read0A) :=
  fun _ => rfl

theorem read0B : Statement (.read0B) :=
  fun _ => rfl

theorem read0C : Statement (.read0C) :=
  fun _ => rfl

theorem read0D : Statement (.read0D) :=
  fun _ => rfl

theorem read0E : Statement (.read0E) :=
  fun _ => rfl

theorem read0F : Statement (.read0F) :=
  fun _ => rfl

theorem read10 : Statement (.read10) :=
  fun _ => rfl

theorem read11 : Statement (.read11) :=
  fun _ => rfl

theorem read12 : Statement (.read12) :=
  fun _ => rfl

theorem read13 : Statement (.read13) :=
  fun _ => rfl

theorem read14 : Statement (.read14) :=
  fun _ => rfl

theorem read15 : Statement (.read15) :=
  fun _ => rfl

theorem read16 : Statement (.read16) :=
  fun _ => rfl

theorem read17 : Statement (.read17) :=
  fun _ => rfl

theorem read18 : Statement (.read18) :=
  fun _ => rfl

theorem read19 : Statement (.read19) :=
  fun _ => rfl

theorem read1A : Statement (.read1A) :=
  fun _ => rfl

theorem readOsc3 : Statement (.readOsc3) :=
  fun _ => rfl

theorem readEnv3 : Statement (.readEnv3) :=
  fun _ => rfl

theorem read1D : Statement (.read1D) :=
  fun _ => rfl

theorem read1E : Statement (.read1E) :=
  fun _ => rfl

theorem read1F : Statement (.read1F) :=
  fun _ => rfl

theorem readOutOfRange20 (a : Byte) : Statement (.readOutOfRange20 a) := by
  intro h
  have hr : a &&& 0xE0 = _ := low_range a (by simpa [Instr.wellFormed] using h)
  have hm := read_fixed a 0xE0
  rw [hr] at hm
  exact hm

theorem readOutOfRange40 (a : Byte) : Statement (.readOutOfRange40 a) := by
  intro h
  have hr : a &&& 0xC0 = _ := mid_range a (by simpa [Instr.wellFormed] using h)
  have hm := read_fixed a 0xC0
  rw [hr] at hm
  exact hm

theorem readOutOfRange80 (a : Byte) : Statement (.readOutOfRange80 a) := by
  intro h
  have hr : a &&& 0x80 = _ := high_range a (by simpa [Instr.wellFormed] using h)
  have hm := read_fixed a 0x80
  rw [hr] at hm
  exact hm

theorem advance (n : Nat) : Statement (.advance n) :=
  fun _ => wide_fixed 0x2 (BitVec.ofNat 28 n)

theorem reset : Statement (.reset) :=
  fun _ => rfl

theorem setChipType (c : Chip) : Statement (.setChipType c) := by
  cases c <;> exact fun _ => rfl

theorem setFilterEnable (e : Bool) : Statement (.setFilterEnable e) := by
  cases e <;> exact fun _ => rfl

theorem setExtEnable (e : Bool) : Statement (.setExtEnable e) := by
  cases e <;> exact fun _ => rfl

theorem setExtInput (x : Int) : Statement (.setExtInput x) :=
  fun _ => wide_fixed 0x7 (BitVec.ofInt 28 x)

theorem audioOutput (b : Nat) : Statement (.audioOutput b) :=
  fun _ => width_fixed (BitVec.ofNat 6 b)

end Sys2Proof.Laws.TableRow
end

