-- ==== Sys2Proof/Laws/Voice.lean ====
section
/-!
SUPPORT. What one cycle of an oscillator and of an envelope generator leaves unchanged, field by field.
-/

namespace Sys2Proof.Machine

/-! ### Oscillator -/

@[simp] theorem Osc.floatDecay_acc (o : Osc) : o.floatDecay.acc = o.acc := by
  unfold Osc.floatDecay
  split <;> rfl

@[simp] theorem Osc.floatDecay_freq (o : Osc) : o.floatDecay.freq = o.freq := by
  unfold Osc.floatDecay
  split <;> rfl

@[simp] theorem Osc.floatDecay_pw (o : Osc) : o.floatDecay.pw = o.pw := by
  unfold Osc.floatDecay
  split <;> rfl

@[simp] theorem Osc.floatDecay_sel (o : Osc) : o.floatDecay.sel = o.sel := by
  unfold Osc.floatDecay
  split <;> rfl

@[simp] theorem Osc.floatDecay_test (o : Osc) : o.floatDecay.test = o.test := by
  unfold Osc.floatDecay
  split <;> rfl

@[simp] theorem Osc.floatDecay_ring (o : Osc) : o.floatDecay.ring = o.ring := by
  unfold Osc.floatDecay
  split <;> rfl

@[simp] theorem Osc.floatDecay_sync (o : Osc) : o.floatDecay.sync = o.sync := by
  unfold Osc.floatDecay
  split <;> rfl

@[simp] theorem Osc.floatDecay_sr (o : Osc) : o.floatDecay.sr = o.sr := by
  unfold Osc.floatDecay
  split <;> rfl

@[simp] theorem Osc.floatDecay_srResetCnt (o : Osc) : o.floatDecay.srResetCnt = o.srResetCnt := by
  unfold Osc.floatDecay
  split <;> rfl

@[simp] theorem Osc.floatDecay_msbRising (o : Osc) : o.floatDecay.msbRising = o.msbRising := by
  unfold Osc.floatDecay
  split <;> rfl

/-- A selected waveform does not decay (40_oscillator R117). -/
theorem Osc.floatDecay_of_sel (o : Osc) (h : o.sel ≠ 0) : o.floatDecay = o := by
  unfold Osc.floatDecay
  rw [if_neg (fun hc => h hc.1)]

@[simp] theorem Osc.shiftResetCountdown_acc (P : Params) (c : Chip) (o : Osc) :
    (o.shiftResetCountdown P c).acc = o.acc := by
  unfold Osc.shiftResetCountdown
  split
  · rfl
  · split
    · split <;> rfl
    · rfl

@[simp] theorem Osc.shiftResetCountdown_freq (P : Params) (c : Chip) (o : Osc) :
    (o.shiftResetCountdown P c).freq = o.freq := by
  unfold Osc.shiftResetCountdown
  split
  · rfl
  · split
    · split <;> rfl
    · rfl

@[simp] theorem Osc.shiftResetCountdown_pw (P : Params) (c : Chip) (o : Osc) :
    (o.shiftResetCountdown P c).pw = o.pw := by
  unfold Osc.shiftResetCountdown
  split
  · rfl
  · split
    · split <;> rfl
    · rfl

@[simp] theorem Osc.shiftResetCountdown_sel (P : Params) (c : Chip) (o : Osc) :
    (o.shiftResetCountdown P c).sel = o.sel := by
  unfold Osc.shiftResetCountdown
  split
  · rfl
  · split
    · split <;> rfl
    · rfl

@[simp] theorem Osc.shiftResetCountdown_test (P : Params) (c : Chip) (o : Osc) :
    (o.shiftResetCountdown P c).test = o.test := by
  unfold Osc.shiftResetCountdown
  split
  · rfl
  · split
    · split <;> rfl
    · rfl

@[simp] theorem Osc.shiftResetCountdown_ring (P : Params) (c : Chip) (o : Osc) :
    (o.shiftResetCountdown P c).ring = o.ring := by
  unfold Osc.shiftResetCountdown
  split
  · rfl
  · split
    · split <;> rfl
    · rfl

@[simp] theorem Osc.shiftResetCountdown_sync (P : Params) (c : Chip) (o : Osc) :
    (o.shiftResetCountdown P c).sync = o.sync := by
  unfold Osc.shiftResetCountdown
  split
  · rfl
  · split
    · split <;> rfl
    · rfl

@[simp] theorem Osc.shiftResetCountdown_floatVal (P : Params) (c : Chip) (o : Osc) :
    (o.shiftResetCountdown P c).floatVal = o.floatVal := by
  unfold Osc.shiftResetCountdown
  split
  · rfl
  · split
    · split <;> rfl
    · rfl

@[simp] theorem Osc.shiftResetCountdown_floatCnt (P : Params) (c : Chip) (o : Osc) :
    (o.shiftResetCountdown P c).floatCnt = o.floatCnt := by
  unfold Osc.shiftResetCountdown
  split
  · rfl
  · split
    · split <;> rfl
    · rfl

@[simp] theorem Osc.shiftResetCountdown_msbRising (P : Params) (c : Chip) (o : Osc) :
    (o.shiftResetCountdown P c).msbRising = o.msbRising := by
  unfold Osc.shiftResetCountdown
  split
  · rfl
  · split
    · split <;> rfl
    · rfl

@[simp] theorem Osc.cycle_freq (P : Params) (c : Chip) (o : Osc) : (o.cycle P c).freq = o.freq := by
  unfold Osc.cycle
  split <;> simp [Osc.count]

@[simp] theorem Osc.cycle_pw (P : Params) (c : Chip) (o : Osc) : (o.cycle P c).pw = o.pw := by
  unfold Osc.cycle
  split <;> simp [Osc.count]

@[simp] theorem Osc.cycle_sel (P : Params) (c : Chip) (o : Osc) : (o.cycle P c).sel = o.sel := by
  unfold Osc.cycle
  split <;> simp [Osc.count]

@[simp] theorem Osc.cycle_test (P : Params) (c : Chip) (o : Osc) : (o.cycle P c).test = o.test := by
  unfold Osc.cycle
  split <;> simp [Osc.count]

@[simp] theorem Osc.cycle_ring (P : Params) (c : Chip) (o : Osc) : (o.cycle P c).ring = o.ring := by
  unfold Osc.cycle
  split <;> simp [Osc.count]

@[simp] theorem Osc.cycle_sync (P : Params) (c : Chip) (o : Osc) : (o.cycle P c).sync = o.sync := by
  unfold Osc.cycle
  split <;> simp [Osc.count]

/-- Under the test bit a cycle leaves the accumulator and clears the rising flag (40_oscillator R101, R104). -/
theorem Osc.cycle_tested (P : Params) (c : Chip) (o : Osc) (h : o.test = true) :
    (o.cycle P c).acc = o.acc ∧ (o.cycle P c).msbRising = false := by
  unfold Osc.cycle
  simp [h]

/-- With the test bit clear a cycle leaves the shift-register countdown (40_oscillator R110). -/
theorem Osc.cycle_untested (P : Params) (c : Chip) (o : Osc) (h : o.test = false) :
    (o.cycle P c).acc = o.acc + o.freq.setWidth 24 ∧ (o.cycle P c).srResetCnt = o.srResetCnt := by
  unfold Osc.cycle
  simp [h, Osc.count]

/-- A selected waveform has no floating countdown to run (40_oscillator R117). -/
theorem Osc.cycle_floatCnt (P : Params) (c : Chip) (o : Osc) (h : o.sel ≠ 0) :
    (o.cycle P c).floatCnt = o.floatCnt := by
  unfold Osc.cycle
  split
  · rw [Osc.floatDecay_of_sel _ (by simpa using h)]
    simp
  · rw [Osc.floatDecay_of_sel _ (show (o.count P).sel ≠ 0 from h)]
    rfl

/-! ### Envelope generator -/

@[simp] theorem Env.enterState_attack (P : Params) (e : Env) (g : GateTarget) : (e.enterState P g).attack = e.attack := by
  cases g <;> rfl

@[simp] theorem Env.pipelineStep_attack (P : Params) (e : Env) : (e.pipelineStep P).attack = e.attack := by
  unfold Env.pipelineStep
  split
  · rfl
  · split <;> simp

@[simp] theorem Env.enterState_decay (P : Params) (e : Env) (g : GateTarget) : (e.enterState P g).decay = e.decay := by
  cases g <;> rfl

@[simp] theorem Env.pipelineStep_decay (P : Params) (e : Env) : (e.pipelineStep P).decay = e.decay := by
  unfold Env.pipelineStep
  split
  · rfl
  · split <;> simp

@[simp] theorem Env.enterState_sustain (P : Params) (e : Env) (g : GateTarget) : (e.enterState P g).sustain = e.sustain := by
  cases g <;> rfl

@[simp] theorem Env.pipelineStep_sustain (P : Params) (e : Env) : (e.pipelineStep P).sustain = e.sustain := by
  unfold Env.pipelineStep
  split
  · rfl
  · split <;> simp

@[simp] theorem Env.enterState_release (P : Params) (e : Env) (g : GateTarget) : (e.enterState P g).release = e.release := by
  cases g <;> rfl

@[simp] theorem Env.pipelineStep_release (P : Params) (e : Env) : (e.pipelineStep P).release = e.release := by
  unfold Env.pipelineStep
  split
  · rfl
  · split <;> simp

@[simp] theorem Env.enterState_gate (P : Params) (e : Env) (g : GateTarget) : (e.enterState P g).gate = e.gate := by
  cases g <;> rfl

@[simp] theorem Env.pipelineStep_gate (P : Params) (e : Env) : (e.pipelineStep P).gate = e.gate := by
  unfold Env.pipelineStep
  split
  · rfl
  · split <;> simp

@[simp] theorem Env.attackStep_attack (P : Params) (e : Env) : (e.attackStep P).attack = e.attack := by
  unfold Env.attackStep
  dsimp only
  split_ifs <;> rfl

@[simp] theorem Env.decayStep_attack (P : Params) (e : Env) : (e.decayStep P).attack = e.attack := by
  unfold Env.decayStep
  split <;> rfl

@[simp] theorem Env.releaseStep_attack (P : Params) (e : Env) : (e.releaseStep P).attack = e.attack := by
  unfold Env.releaseStep
  split <;> rfl

@[simp] theorem Env.tick_attack (P : Params) (e : Env) : (e.tick P).attack = e.attack := by
  unfold Env.tick Env.expTick
  split
  · simp
  · split
    · rfl
    · split <;> simp
  · split
    · rfl
    · split <;> simp

@[simp] theorem Env.attackStep_decay (P : Params) (e : Env) : (e.attackStep P).decay = e.decay := by
  unfold Env.attackStep
  dsimp only
  split_ifs <;> rfl

@[simp] theorem Env.decayStep_decay (P : Params) (e : Env) : (e.decayStep P).decay = e.decay := by
  unfold Env.decayStep
  split <;> rfl

@[simp] theorem Env.releaseStep_decay (P : Params) (e : Env) : (e.releaseStep P).decay = e.decay := by
  unfold Env.releaseStep
  split <;> rfl

@[simp] theorem Env.tick_decay (P : Params) (e : Env) : (e.tick P).decay = e.decay := by
  unfold Env.tick Env.expTick
  split
  · simp
  · split
    · rfl
    · split <;> simp
  · split
    · rfl
    · split <;> simp

@[simp] theorem Env.attackStep_sustain (P : Params) (e : Env) : (e.attackStep P).sustain = e.sustain := by
  unfold Env.attackStep
  dsimp only
  split_ifs <;> rfl

@[simp] theorem Env.decayStep_sustain (P : Params) (e : Env) : (e.decayStep P).sustain = e.sustain := by
  unfold Env.decayStep
  split <;> rfl

@[simp] theorem Env.releaseStep_sustain (P : Params) (e : Env) : (e.releaseStep P).sustain = e.sustain := by
  unfold Env.releaseStep
  split <;> rfl

@[simp] theorem Env.tick_sustain (P : Params) (e : Env) : (e.tick P).sustain = e.sustain := by
  unfold Env.tick Env.expTick
  split
  · simp
  · split
    · rfl
    · split <;> simp
  · split
    · rfl
    · split <;> simp

@[simp] theorem Env.attackStep_release (P : Params) (e : Env) : (e.attackStep P).release = e.release := by
  unfold Env.attackStep
  dsimp only
  split_ifs <;> rfl

@[simp] theorem Env.decayStep_release (P : Params) (e : Env) : (e.decayStep P).release = e.release := by
  unfold Env.decayStep
  split <;> rfl

@[simp] theorem Env.releaseStep_release (P : Params) (e : Env) : (e.releaseStep P).release = e.release := by
  unfold Env.releaseStep
  split <;> rfl

@[simp] theorem Env.tick_release (P : Params) (e : Env) : (e.tick P).release = e.release := by
  unfold Env.tick Env.expTick
  split
  · simp
  · split
    · rfl
    · split <;> simp
  · split
    · rfl
    · split <;> simp

@[simp] theorem Env.attackStep_gate (P : Params) (e : Env) : (e.attackStep P).gate = e.gate := by
  unfold Env.attackStep
  dsimp only
  split_ifs <;> rfl

@[simp] theorem Env.decayStep_gate (P : Params) (e : Env) : (e.decayStep P).gate = e.gate := by
  unfold Env.decayStep
  split <;> rfl

@[simp] theorem Env.releaseStep_gate (P : Params) (e : Env) : (e.releaseStep P).gate = e.gate := by
  unfold Env.releaseStep
  split <;> rfl

@[simp] theorem Env.tick_gate (P : Params) (e : Env) : (e.tick P).gate = e.gate := by
  unfold Env.tick Env.expTick
  split
  · simp
  · split
    · rfl
    · split <;> simp
  · split
    · rfl
    · split <;> simp

@[simp] theorem Env.attackStep_rateCnt (P : Params) (e : Env) : (e.attackStep P).rateCnt = e.rateCnt := by
  unfold Env.attackStep
  dsimp only
  split_ifs <;> rfl

@[simp] theorem Env.decayStep_rateCnt (P : Params) (e : Env) : (e.decayStep P).rateCnt = e.rateCnt := by
  unfold Env.decayStep
  split <;> rfl

@[simp] theorem Env.releaseStep_rateCnt (P : Params) (e : Env) : (e.releaseStep P).rateCnt = e.rateCnt := by
  unfold Env.releaseStep
  split <;> rfl

@[simp] theorem Env.tick_rateCnt (P : Params) (e : Env) : (e.tick P).rateCnt = e.rateCnt := by
  unfold Env.tick Env.expTick
  split
  · simp
  · split
    · rfl
    · split <;> simp
  · split
    · rfl
    · split <;> simp

@[simp] theorem Env.attackStep_pipeCnt (P : Params) (e : Env) : (e.attackStep P).pipeCnt = e.pipeCnt := by
  unfold Env.attackStep
  dsimp only
  split_ifs <;> rfl

@[simp] theorem Env.decayStep_pipeCnt (P : Params) (e : Env) : (e.decayStep P).pipeCnt = e.pipeCnt := by
  unfold Env.decayStep
  split <;> rfl

@[simp] theorem Env.releaseStep_pipeCnt (P : Params) (e : Env) : (e.releaseStep P).pipeCnt = e.pipeCnt := by
  unfold Env.releaseStep
  split <;> rfl

@[simp] theorem Env.tick_pipeCnt (P : Params) (e : Env) : (e.tick P).pipeCnt = e.pipeCnt := by
  unfold Env.tick Env.expTick
  split
  · simp
  · split
    · rfl
    · split <;> simp
  · split
    · rfl
    · split <;> simp

@[simp] theorem Env.attackStep_pipeNext (P : Params) (e : Env) : (e.attackStep P).pipeNext = e.pipeNext := by
  unfold Env.attackStep
  dsimp only
  split_ifs <;> rfl

@[simp] theorem Env.decayStep_pipeNext (P : Params) (e : Env) : (e.decayStep P).pipeNext = e.pipeNext := by
  unfold Env.decayStep
  split <;> rfl

@[simp] theorem Env.releaseStep_pipeNext (P : Params) (e : Env) : (e.releaseStep P).pipeNext = e.pipeNext := by
  unfold Env.releaseStep
  split <;> rfl

@[simp] theorem Env.tick_pipeNext (P : Params) (e : Env) : (e.tick P).pipeNext = e.pipeNext := by
  unfold Env.tick Env.expTick
  split
  · simp
  · split
    · rfl
    · split <;> simp
  · split
    · rfl
    · split <;> simp

@[simp] theorem Env.cycle_attack (P : Params) (e : Env) : (e.cycle P).attack = e.attack := by
  unfold Env.cycle Env.rateStep
  split <;> simp

@[simp] theorem Env.cycle_decay (P : Params) (e : Env) : (e.cycle P).decay = e.decay := by
  unfold Env.cycle Env.rateStep
  split <;> simp

@[simp] theorem Env.cycle_sustain (P : Params) (e : Env) : (e.cycle P).sustain = e.sustain := by
  unfold Env.cycle Env.rateStep
  split <;> simp

@[simp] theorem Env.cycle_release (P : Params) (e : Env) : (e.cycle P).release = e.release := by
  unfold Env.cycle Env.rateStep
  split <;> simp

@[simp] theorem Env.cycle_gate (P : Params) (e : Env) : (e.cycle P).gate = e.gate := by
  unfold Env.cycle Env.rateStep
  split <;> simp

end Sys2Proof.Machine
end

