-- ==== Sys2Proof/Tests/Slice0.lean ====
section
/-!
SUPPORT. The model's own tests: ill-formed terms, words of the spec's encodings, the vectors of 95_test_vectors
(expected values copied from there) and, for every statement with hypotheses, a witness that meets them.
-/

open Sys2Proof Sys2Proof.Machine

namespace Sys2Proof.Tests

/-! ### Ill-formed terms, one for each check of WellFormed -/

theorem test_wf_write_range20 :
    (Instr.writeOutOfRange20 0x1F 0).wellFormed = false ∧ (Instr.writeOutOfRange20 0x40 0).wellFormed = false := by
  decide

theorem test_wf_write_range40 :
    (Instr.writeOutOfRange40 0x3F 0).wellFormed = false ∧ (Instr.writeOutOfRange40 0x80 0).wellFormed = false := by
  decide

theorem test_wf_write_range80 : (Instr.writeOutOfRange80 0x7F 0).wellFormed = false := by decide

theorem test_wf_read_range20 :
    (Instr.readOutOfRange20 0x1F).wellFormed = false ∧ (Instr.readOutOfRange20 0x40).wellFormed = false := by
  decide

theorem test_wf_read_range40 :
    (Instr.readOutOfRange40 0x3F).wellFormed = false ∧ (Instr.readOutOfRange40 0x80).wellFormed = false := by
  decide

theorem test_wf_read_range80 : (Instr.readOutOfRange80 0x7F).wellFormed = false := by decide

theorem test_wf_advance : (Instr.advance 268435456).wellFormed = false := by decide

theorem test_wf_ext_input :
    (Instr.setExtInput (-134217729)).wellFormed = false ∧ (Instr.setExtInput 134217728).wellFormed = false := by
  decide

theorem test_wf_audio_output : (Instr.audioOutput 64).wellFormed = false := by decide

/-! ### Words, bit by bit from 30_encoding R83..R87 and 95_test_vectors 2.9 -/

theorem test_decode_write :
    decode 0b0000_000000000000_00000100_00100001 = .ok (.writeV0Control 0x21) ∧
    decode 0b0000_000000000000_00001100_01011010 = .ok (.writeV1Ad 0x5A) ∧
    decode 0b0000_000000000000_00010100_11110000 = .ok (.writeV2Sr 0xF0) ∧
    decode 0b0000_000000000000_00011000_11111111 = .ok (.writeModeVol 0xFF) := by
  decide

theorem test_decode_write_other :
    decode 0b0000_000000000000_00011111_00000000 = .ok (.writeUnmapped1F 0x00) ∧
    decode 0b0000_000000000000_00111111_01010101 = .ok (.writeOutOfRange20 0x3F 0x55) ∧
    decode 0b0000_000000000000_01000000_00000000 = .ok (.writeOutOfRange40 0x40 0x00) ∧
    decode 0b0000_000000000000_11111111_00000000 = .ok (.writeOutOfRange80 0xFF 0x00) := by
  decide

theorem test_decode_read :
    decode 0b0001_000000000000_00000000_00000000 = .ok .read00 ∧
    decode 0b0001_000000000000_00011011_00000000 = .ok .readOsc3 ∧
    decode 0b0001_000000000000_00011100_00000000 = .ok .readEnv3 ∧
    decode 0b0001_000000000000_00100000_00000000 = .ok (.readOutOfRange20 0x20) := by
  decide

theorem test_decode_advance :
    decode 0b0010_0000000000000000001111101000 = .ok (.advance 1000) ∧
    decode 0b0010_1111111111111111111111111111 = .ok (.advance 268435455) := by
  decide

theorem test_decode_control :
    decode 0b0011_0000000000000000000000000000 = .ok .reset ∧
    decode 0b0100_000000000000000000000000000_1 = .ok (.setChipType .mos8580) ∧
    decode 0b0101_000000000000000000000000000_0 = .ok (.setFilterEnable false) ∧
    decode 0b0110_000000000000000000000000000_1 = .ok (.setExtEnable true) := by
  decide

theorem test_decode_ext_input :
    decode 0b0111_1111111111111111111111111111 = .ok (.setExtInput (-1)) ∧
    decode 0b0111_1000000000000000000000000000 = .ok (.setExtInput (-134217728)) := by
  decide

theorem test_decode_audio_output :
    decode 0b1000_0000000000000000000000_010000 = .ok (.audioOutput 16) := by
  decide

/-- 95_test_vectors 2.9, the invalid words. -/
theorem test_decode_invalid :
    decode 0x00010421 = .error (.reservedBits 0x00010421) ∧ decode 0x10001B01 = .error (.reservedBits 0x10001B01) ∧
    decode 0x30000001 = .error (.reservedBits 0x30000001) ∧ decode 0x40000002 = .error (.reservedBits 0x40000002) ∧
    decode 0x0FFF0000 = .error (.reservedBits 0x0FFF0000) ∧ decode 0x80000040 = .error (.reservedBits 0x80000040) ∧
    decode 0x90000000 = .error (.invalidKind 9) ∧ decode 0xFFFFFFFF = .error (.invalidKind 15) := by
  decide

theorem test_decodeTableWord :
    decodeTableWord 32 0x80000010 = some (.audioOutput 16) ∧ decodeTableWord 16 0xFFFF0421 = some (.writeV0Control 0x21) := by
  decide

/-! ### The test parameter set T of 95_test_vectors section 0 -/

def T : Params where
  ratePeriod n :=
    match n.toNat with
    | 0 => 9
    | 1 => 32
    | 2 => 63
    | 3 => 95
    | 4 => 149
    | 5 => 220
    | 6 => 267
    | 7 => 313
    | 8 => 392
    | 9 => 977
    | 10 => 1954
    | 11 => 3126
    | 12 => 3907
    | 13 => 11720
    | 14 => 19532
    | _ => 31251
  envPowerup := 0xAA
  gateOnDelay := 2
  gateOffDelay := 2
  rateWrapTo := 0
  expPeriodMode := .step
  accReset := 0x555555
  srReset := 0x7FFFFF
  shiftResetCycles c := match c with
    | .mos6581 => 0x8000
    | .mos8580 => 0x950000
  srResetMode := .jump
  floatTtl c := match c with
    | .mos6581 => 54000
    | .mos8580 => 800000
  noiseClockEdge := .toggle
  testEdgeSr := .keep
  testFallShift := false
  testPulseHigh := false
  combinedWave _ _ _ _ := 0
  waveDac _ x := x.toNat
  envDac _ x := x.toNat
  waveZero c := match c with
    | .mos6581 => 0x380
    | .mos8580 => 0x800
  voiceDc _ := 0
  syncException := false
  cutoffHz _ fc := 30 + 6 * fc.toNat
  w0Max1 := 105414
  w0MaxDt := 26353
  filterInShift := 7
  filterDc _ := 0
  w0lp := 104858
  w0hp := 105
  extDc _ := 0
  outDiv _ := 11
  defaultChip := .mos6581
  readOther := .shadow
  arithWidth := some 32

theorem test_T_legal_periods : ∀ n : BitVec 4, T.ratePeriod n ≠ 0 := by decide

/-- 95_test_vectors W2: 255 * 9 + 2 = 2297, under the bound of 41_envelope R140. -/
theorem test_T_scenario_bound :
    255 * (T.ratePeriod 0).toNat + T.gateOnDelay = 2297 ∧ 255 * (T.ratePeriod 0).toNat + T.gateOnDelay ≤ 1000000 := by
  decide

/-- The oscillator of the vectors: reset values with the fields a vector gives. -/
def osc (acc : BitVec 24) (freq : BitVec 16) : Osc := { Osc.atReset T with acc := acc, freq := freq }

def env0 : Env := Env.atReset T

def flt0 : Machine.Filter := Filter.atReset

/-- Power-up under T. -/
def up : State := State.powerUp T

/-- One more advance, overflow included. -/
def adv (n : Nat) (s : State) : State := s.advanceOp T n

/-! ### Oscillator vectors (95_test_vectors 2.1, 2.2, 2.3) -/

/-- V-OSC-1 and V-OSC-2. -/
theorem test_osc_wrap_and_rise :
    (osc 0xFFFFF0 0x20).cycle T .mos6581 = { osc 0x000010 0x20 with sr := 0x7FFFFE, msbRising := false } ∧
    (osc 0x7FFFF0 0x20).cycle T .mos6581 = { osc 0x800010 0x20 with sr := 0x7FFFFE, msbRising := true } := by
  decide

/-- V-OSC-4, both readings of the bit-19 event. -/
theorem test_osc_noise_edge :
    ((osc 0x0FFFFF 1).cycle T .mos6581).sr = 0x7FFFFE ∧
    ((osc 0x0FFFFF 1).cycle { T with noiseClockEdge := .rising } .mos6581).sr = 0x7FFFFF := by
  decide

/-- 2.2, the rows of accumulator 0x123456 and 0x7FFFFF. -/
theorem test_triangle_and_sawtooth :
    (osc 0x123456 0).triangle true = 0x246 ∧ (osc 0x123456 0).sawtooth = 0x123 ∧
    ({ osc 0x123456 0 with ring := true } : Osc).triangle true = 0xDB9 ∧ (osc 0x7FFFFF 0).triangle false = 0xFFF := by
  decide

/-- 2.2, pulse. -/
theorem test_pulse_compare :
    ({ osc 0x800000 0 with pw := 0x800 } : Osc).pulse T = 0xFFF ∧
    ({ osc 0x800000 0 with pw := 0x801 } : Osc).pulse T = 0x000 ∧
    ({ osc 0x000000 0 with pw := 0x000 } : Osc).pulse T = 0xFFF ∧
    ({ osc 0xFFEFFF 0 with pw := 0xFFF } : Osc).pulse T = 0x000 := by
  decide

/-- 2.1, the register and its output after three shifts. -/
theorem test_noise_output : shiftNoise 0x7FFFFC = 0x7FFFF8 ∧ noiseOutput 0x7FFFF8 = 0xFC0 := by decide

/-- V-CTL-1. -/
theorem test_control_test_edge :
    let o := (({ osc 0x123456 0x1000 with sr := 1 } : Osc).writeControl T .mos6581 0 0x08)
    o.acc = 0 ∧ o.sr = 1 ∧ o.srResetCnt = 0x8000 := by
  decide

/-- V-CTL-3: the cycle in which the countdown expires. -/
theorem test_shift_register_reset :
    let o := ({ osc 0 0x1000 with sr := 1, test := true, srResetCnt := 1 } : Osc).cycle T .mos6581
    o.sr = 0x7FFFFF ∧ o.srResetCnt = 0 := by
  decide

/-- V-CTL-11: one fade step. -/
theorem test_shift_register_fade :
    let P : Params := { T with srResetMode := .bitfade, shiftResetCycles := fun _ => 4 }
    let o := ({ osc 0 0 with sr := 0x400000, test := true, srResetCnt := 1 } : Osc).cycle P .mos6581
    o.sr = 0x600000 ∧ o.srResetCnt = 4 := by
  decide

/-- V-CTL-8 and V-CTL-10. -/
theorem test_floating_output :
    let o := ({ osc 0x123456 0 with sel := 2 } : Osc).writeControl T .mos6581 0x123 0x00
    o.floatVal = 0x123 ∧ o.floatCnt = 54000 ∧ (({ o with floatCnt := 1 } : Osc).cycle T .mos6581).floatVal = 0 := by
  decide

/-! ### Envelope vectors (95_test_vectors 2.4) -/

/-- W3, both sides of each threshold. -/
theorem test_exponential_periods :
    ([0xFF, 0x5E, 0x5D, 0x37, 0x36, 0x1B, 0x1A, 0x0F, 0x0E, 0x07, 0x06, 0x01, 0x00].map
      (fun c => (expPeriodOf c).ticks)) = [1, 1, 2, 2, 4, 4, 8, 8, 16, 16, 30, 30, 1] := by
  decide

/-- V-ENV-2. -/
theorem test_attack_saturates :
    let e := ({ env0 with state := .attack, cnt := 0xFE, ratePeriod := 1 } : Env).cycle T
    e.cnt = 0xFF ∧ e.state = .decaySustain ∧ e.ratePeriod = 9 ∧ e.rateCnt = 0 := by
  decide

/-- V-ENV-3: the step to 0x5D changes the period. -/
theorem test_decay_step :
    let e := ({ env0 with state := .decaySustain, cnt := 0x5E, sustain := 5, rateCnt := 8 } : Env).cycle T
    e.cnt = 0x5D ∧ e.expPeriod = .p2 ∧ e.rateCnt = 0 := by
  decide

/-- V-ENV-4: the step to 0 holds. -/
theorem test_release_reaches_zero :
    let e := ({ env0 with cnt := 0x01, expPeriod := .p30, expCnt := 29, rateCnt := 8 } : Env).cycle T
    e.cnt = 0x00 ∧ e.holdZero = true ∧ e.expPeriod = .p1 := by
  decide

/-- V-ENV-6: the second event replaces the first. -/
theorem test_gate_pipeline :
    let e := (env0.gateWrite T true).gateWrite T false
    e.pipeNext = .release ∧ e.pipeCnt = 2 ∧ e.gate = false ∧ ((e.cycle T).cycle T).state = .release := by
  decide

/-- V-ENV-8. -/
theorem test_attack_decay_write :
    let e := ({ env0 with state := .decaySustain } : Env).writeAttackDecay T 0x0A
    e.attack = 0 ∧ e.decay = 0xA ∧ e.ratePeriod = 1954 := by
  decide

/-! ### Voice and sync vectors (95_test_vectors 2.5) -/

theorem test_voice_output :
    (voiceOut T .mos6581 0xFFF 0xFF).toOption = some 815745 ∧ (voiceOut T .mos6581 0x000 0xFF).toOption = some (-228480) ∧
    (voiceOut T .mos8580 0xFFF 0xFF).toOption = some 521985 := by
  decide

theorem test_sync_step :
    let o : Triple Osc := ⟨{ osc 0x7FFFFF 1 with sync := true }, { osc 0x7FFFFF 1 with sync := true }, osc 0x7FFFFF 1⟩
    let a := fun P => (syncStep P (o.map (Osc.cycle P .mos6581))).map (fun o => o.acc)
    a T = ⟨0x000000, 0x000000, 0x800000⟩ ∧ a { T with syncException := true } = ⟨0x000000, 0x800000, 0x800000⟩ := by
  decide

/-! ### Filter vectors (95_test_vectors 2.6, 2.7) -/

theorem test_routing :
    (route T flt0 1280 (-1280) 12800 25600).toOption = some (0, 300) ∧
    (route T { flt0 with voice3off := true } 1280 (-1280) 12800 25600).toOption = some (0, 200) ∧
    (route T { flt0 with filt := 4, voice3off := true } 1280 (-1280) 12800 25600).toOption = some (100, 200) ∧
    (route T { flt0 with filt := 8 } 1280 (-1280) 12800 25600).toOption = some (200, 100) := by
  decide

/-- The second ADVANCE 1 of the one-cycle table. -/
theorem test_filter_step :
    (svfStep1 T .mos6581 1000 { flt0 with fc := 0x400, vhp := -1000 }).toOption =
      some { flt0 with fc := 0x400, vhp := -945, vbp := 39, vlp := 0 } := by
  decide

/-- ADVANCE 20 from 0: sub-steps 8, 8 and 4. -/
theorem test_filter_sub_steps :
    subSteps 20 = [8, 8, 4] ∧
    (svfStepsDt T .mos6581 20 1000 { flt0 with fc := 0x400 }).toOption =
      some { flt0 with fc := 0x400, vhp := -593, vbp := 274, vlp := -20 } := by
  decide

/-- The filter disabled, and its output. -/
theorem test_filter_disabled :
    let cfg : Cfg := ⟨false, true, 0⟩
    let g := { flt0 with filt := 1, vol := 2, mode := 7, vnf := 30 }
    (filterAdvance T .mos6581 cfg 3 1280 2560 0 { flt0 with filt := 1, vol := 2, mode := 7, vhp := 5, vbp := 6, vlp := 7 }).toOption =
      some g ∧
    (filterOutput T .mos6581 cfg g).toOption = some 60 := by
  decide

/-- V-EXT-1 and V-EXT-5. -/
theorem test_external_filter :
    (extAdvance T .mos6581 Cfg.atPowerUp 1 4096 ⟨0, 0, 0⟩).toOption = some ⟨409, 0, 0⟩ ∧
    (extAdvance T .mos6581 ⟨true, false, 0⟩ 5 1000 ⟨9, 0, 0⟩).toOption = some ⟨0, 0, 1000⟩ := by
  decide

/-! ### Chip vectors (95_test_vectors 2.8 and P4) -/

/-- V-CHIP-3 and V-CHIP-4. -/
theorem test_unmapped_write_and_read :
    (((up.write T 0x1B 0x77).readOp T 0x1B).result = some (.byte 0)) ∧
    (((up.write T 0x19 0x77).readOp T 0x19).result = some (.byte 0x77)) ∧
    (((up.write T 0x19 0x77).readOp { T with readOther := .lastBus } 0x05).result = some (.byte 0x77)) := by
  decide

/-- V-CHIP-6. -/
theorem test_read_out_of_range : (up.readOp T 0x20).refused = some (.readOutOfRange 0x20) := by decide

/-- V-CHIP-7 and P4 step 5. -/
theorem test_held_write :
    let s1 := ({ up with chip := .mos8580 } : State).write T 0x18 0x0F
    s1.pending = some ⟨0x18, 0x0F⟩ ∧ s1.flt.vol = 0 ∧ (s1.write T 0x17 0xF1).flt.vol = 15 ∧
    (s1.write T 0x17 0xF1).pending = some ⟨0x17, 0xF1⟩ := by
  decide

/-- V-CHIP-8, the first ADVANCE. -/
theorem test_held_write_after_one_cycle :
    let s := adv 1 (({ up with chip := .mos8580 } : State).write T 0x04 0x01)
    s.env.v0.gate = true ∧ s.env.v0.pipeCnt = 2 ∧ s.env.v0.state = .release ∧ s.pending = none := by
  decide

/-- V-CHIP-9. -/
theorem test_audio_output :
    (audioSample T 400000 16).toOption = some 32767 ∧ (audioSample T (-23) 16).toOption = some (-2) ∧
    (audioSample T (-400000) 16).toOption = some (-32768) := by
  decide

/-- V-CHIP-11 and V-CHIP-13. -/
theorem test_chip_type_and_reset :
    let s : State := { up with chip := .mos8580, pending := some ⟨0x18, 0x0F⟩ }
    (s.setChipTypeOp T .mos6581).flt.vol = 15 ∧ (s.setChipTypeOp T .mos6581).pending = none ∧
    (s.resetOp T).pending = none ∧ (s.resetOp T).flt.vol = 0 ∧ (s.resetOp T).chip = .mos8580 := by
  decide

/-- V-CHIP-15, P7 step 7: the overflow discards the advance. -/
theorem test_overflow :
    let s : State := { up with flt := { flt0 with fc := 0x7FF, filt := 8, vhp := -32768 }, cfg := ⟨true, true, 0x400000⟩ }
    adv 1 s = { s with fault := some (.overflow .r188) } := by
  decide

/-! ### Single steps of the machine -/

/-- The machine after reset with one operation waiting. -/
def waiting (w : Word) : State := { State.reset with stream := [w] }

/-- The next state of a step. -/
def after (s : State) : State :=
  match step s with
  | .next t => t
  | .fault _ => s
  | .refused _ => s

/-- The state a live machine on MOS6581 is in with a register field set. -/
theorem test_step_freq :
    (after { waiting 0x00000034 with osc := { State.reset.osc with v0 := { State.reset.osc.v0 with freq := 0x1200 } } }).osc.v0.freq = 0x1234 ∧
    (after { waiting 0x00000112 with osc := { State.reset.osc with v0 := { State.reset.osc.v0 with freq := 0x0034 } } }).osc.v0.freq = 0x1234 := by
  decide

theorem test_step_pw :
    (after { waiting 0x000002FF with osc := { State.reset.osc with v0 := { State.reset.osc.v0 with pw := 0x800 } } }).osc.v0.pw = 0x8FF ∧
    (after { waiting 0x000003F8 with osc := { State.reset.osc with v0 := { State.reset.osc.v0 with pw := 0x0FF } } }).osc.v0.pw = 0x8FF := by
  decide

/-- V-CTL-12. -/
theorem test_step_control :
    (after (waiting 0x00000421)).osc.v0.sel = 2 ∧ (after (waiting 0x00000421)).env.v0.gate = true ∧
    (after (waiting 0x00000421)).env.v0.pipeNext = .attack ∧ (after (waiting 0x00000421)).env.v0.state = .release := by
  decide

theorem test_step_nibbles :
    (after (waiting 0x00000C5A)).env.v1.attack = 5 ∧ (after (waiting 0x00000C5A)).env.v1.decay = 0xA ∧
    (after (waiting 0x000014A5)).env.v2.sustain = 0xA ∧ (after (waiting 0x000014A5)).env.v2.release = 5 := by
  decide

/-- 2.6, register writes. -/
theorem test_step_filter_writes :
    (after (waiting 0x000015FF)).flt.fc = 0x007 ∧
    (after { waiting 0x00001680 with flt := { State.reset.flt with fc := 0x007 } }).flt.fc = 0x407 ∧
    (after (waiting 0x000017F1)).flt.res = 15 ∧ (after (waiting 0x000017F1)).flt.filt = 1 ∧
    (after (waiting 0x0000189F)).flt = { State.reset.flt with vol := 15, mode := 1, voice3off := true } := by
  decide

/-- V-CHIP-1 and V-CHIP-2: the taps. -/
theorem test_step_taps :
    (after (waiting 0x10001C00)).result = some (.byte 0xAA) ∧ (after (waiting 0x10001B00)).result = some (.byte 0x00) := by
  decide

theorem test_step_setters :
    (after (waiting 0x50000000)).cfg = ⟨false, true, 0⟩ ∧ (after (waiting 0x60000000)).cfg = ⟨true, false, 0⟩ ∧
    (after (waiting 0x78000000)).cfg = ⟨true, true, -134217728⟩ ∧ (after (waiting 0x40000001)).chip = .mos8580 := by
  decide

/-- V-CHIP-10, 2.9: refusals are marks. -/
theorem test_step_refusals :
    (after (waiting 0x80000021)).refused = some (.badOutputWidth 33) ∧
    (after (waiting 0x90000000)).refused = some (.invalidKind 9) ∧
    (after (waiting 0x10002000)).refused = some (.readOutOfRange 0x20) := by
  decide

theorem test_withFetchWord :
    (State.reset.withFetchWord 32 0x000018FF).stream = [0x000018FF] ∧
    (after (State.reset.withFetchWord 32 0x000018FF)).flt.vol = 15 := by
  decide

/-! ### Witnesses: states and operands that meet the hypotheses of each statement -/

/-- The machine after reset on MOS8580, with a write held or not. -/
def on8580 (p : Option HeldWrite) : State := { State.reset with chip := .mos8580, pending := p }

/-- The machine after reset with both filters disabled. -/
def bypassed (p : Option HeldWrite) : State := { on8580 p with cfg := ⟨false, false, 0⟩ }

/-- An advance with both filters disabled and volume 0 does not overflow. -/
theorem bypassed_advance (n : Nat) (s : State) (hn : 1 ≤ n) (hc : s.cfg = ⟨false, false, 0⟩) (hv : s.flt.vol = 0) :
    ∃ t x0 x1 x2 vin f e, s.advanceCore params n = .ok t ∧ t.cfg = s.cfg ∧ t.flt.vol = s.flt.vol ∧
      voiceOutOf params s.chip ((State.cycle params)^[n] s).osc ((State.cycle params)^[n] s).env .v0 = .ok x0 ∧
      voiceOutOf params s.chip ((State.cycle params)^[n] s).osc ((State.cycle params)^[n] s).env .v1 = .ok x1 ∧
      voiceOutOf params s.chip ((State.cycle params)^[n] s).osc ((State.cycle params)^[n] s).env .v2 = .ok x2 ∧
      filterAdvance params s.chip s.cfg n x0 x1 x2 s.flt = .ok f ∧
      filterOutput params s.chip s.cfg f = .ok vin ∧ extAdvance params s.chip s.cfg n vin s.ext = .ok e := by
  obtain ⟨x0, e0, b0⟩ := voiceOutOf_bounds s.chip ((State.cycle params)^[n] s).osc ((State.cycle params)^[n] s).env .v0
  obtain ⟨x1, e1, b1⟩ := voiceOutOf_bounds s.chip ((State.cycle params)^[n] s).osc ((State.cycle params)^[n] s).env .v1
  obtain ⟨x2, e2, b2⟩ := voiceOutOf_bounds s.chip ((State.cycle params)^[n] s).osc ((State.cycle params)^[n] s).env .v2
  obtain ⟨vi, vnf, hr, hi1, hi2, hn1, hn2⟩ :=
    route_of_bounds s.flt x0 x1 x2 0 (by omega) (by omega) (by omega) (by omega)
  have hf : filterAdvance params s.chip s.cfg n x0 x1 x2 s.flt =
      .ok { s.flt with vnf := vi + vnf, vhp := 0, vbp := 0, vlp := 0 } := by
    unfold filterAdvance
    rw [if_neg (by omega), hc, hr, ok_bind]
    change (checked params .r187 (vi + vnf) >>= _) = _
    rw [checked_of_fits _ _ _ (by rw [fits_params]; omega), ok_bind]
    rfl
  have hd := params_filterDc_bounds s.chip
  have ho : filterOutput params s.chip s.cfg { s.flt with vnf := vi + vnf, vhp := 0, vbp := 0, vlp := 0 } = .ok 0 := by
    unfold filterOutput
    rw [checkedSum_of_bounds .r191 0 _ (le_refl _) (by simp) (by simp), ok_bind, hc]
    simp only [hv, Bool.false_eq_true, if_false, Int.add_zero]
    rw [checked_of_fits _ _ (vi + vnf) (by rw [fits_params]; omega), ok_bind,
      checked_of_fits _ _ (params.filterDc s.chip) (by rw [fits_params]; omega), ok_bind,
      checked_of_fits _ _ (vi + vnf + params.filterDc s.chip) (by rw [fits_params]; omega), ok_bind,
      show (vi + vnf + params.filterDc s.chip) * ((0 : BitVec 4).toNat : Int) = 0 from Int.mul_zero _,
      checked_of_fits _ _ _ (fits_zero params)]
  have hx := params_extDc_bounds s.chip
  have he : extAdvance params s.chip s.cfg n 0 s.ext = .ok ⟨0, 0, 0 - params.extDc s.chip⟩ := by
    unfold extAdvance
    rw [if_neg (by omega), hc, if_neg (by simp)]
    rw [checked_of_fits _ _ (params.extDc s.chip) (by rw [fits_params]; omega), ok_bind,
      checked_of_fits _ _ (0 - params.extDc s.chip) (by rw [fits_params]; omega), ok_bind]
    rfl
  have hk := State.advanceCore_of_parts e0 e1 e2 hf ho he
  have hfr := State.advanceCore_frame hk
  exact ⟨_, x0, x1, x2, 0, _, _, hk, hfr.2.1, rfl, e0, e1, e2, hf, ho, he⟩

theorem witness_DecodeOfEncodeIsIdentity :
    (Instr.advance 268435455).wellFormed = true ∧ (Instr.setExtInput (-134217728)).wellFormed = true ∧
    (Instr.setExtInput 134217727).wellFormed = true ∧ (Instr.audioOutput 63).wellFormed = true ∧
    (Instr.writeOutOfRange20 0x20 0xFF).wellFormed = true ∧ (Instr.readOutOfRange80 0xFF).wellFormed = true := by
  decide

theorem witness_DecodedWordIsItsEncoding :
    decode 0x2FFFFFFF = .ok (.advance 268435455) ∧ decode 0x8000003F = .ok (.audioOutput 63) := by
  decide

theorem witness_InvalidWordsAreNamed :
    9 ≤ kindField 0x90000000 ∧ 9 ≤ kindField 0xFFFFFFFF ∧ kindField 0x80000000 < 9 ∧ kindField 0x0FFFFFFF < 9 ∧
    decode 0x00010000 = .error (.reservedBits 0x00010000) ∧ decode 0x08000000 = .error (.reservedBits 0x08000000) ∧
    decode 0x10000001 = .error (.reservedBits 0x10000001) ∧ decode 0x10010000 = .error (.reservedBits 0x10010000) ∧
    decode 0x38000000 = .error (.reservedBits 0x38000000) ∧ decode 0x50000002 = .error (.reservedBits 0x50000002) ∧
    decode 0x68000000 = .error (.reservedBits 0x68000000) ∧ decode 0x88000000 = .error (.reservedBits 0x88000000) ∧
    (kindField 0x2FFFFFFF < 9 ∧ decode 0x2FFFFFFF = .ok (.advance 268435455)) ∧
    (kindField 0x0000FFFF < 9 ∧ (0x0000FFFF : Word).extractLsb' 16 12 = 0 ∧
      decode 0x0000FFFF = .ok (.writeOutOfRange80 0xFF 0xFF)) ∧
    (kindField 0x8000003F < 9 ∧ (0x8000003F : Word).extractLsb' 6 22 = 0 ∧
      decode 0x8000003F = .ok (.audioOutput 63)) := by
  decide

theorem witness_StepRunsTheDecodedOperation :
    (waiting 0x30000000).stream = 0x30000000 :: [] ∧ decode 0x30000000 = .ok .reset := by
  decide

theorem witness_IdleBlockDoesNotChange : State.reset.stream = [] := by decide

theorem witness_InvalidWordIsRefused :
    (waiting 0x90000000).live ∧ (waiting 0x90000000).stream = 0x90000000 :: [] ∧
    decode 0x90000000 = .error (.invalidKind 9) ∧
    (waiting 0x80000040).live ∧ (waiting 0x80000040).stream = 0x80000040 :: [] ∧
    decode 0x80000040 = .error (.reservedBits 0x80000040) := by
  decide

theorem witness_QuiescentBlockIgnoresEveryOperation :
    ¬ ({ State.reset with fault := some (.overflow .r188) } : State).live ∧
    ¬ ({ State.reset with refused := some (.badOutputWidth 0) } : State).live := by
  decide

/-- For FrequencyWritesReplaceOneHalf, PulseWidthWritesReplaceOnePart, ControlWriteReachesBothComponents,
EnvelopeWritesSetNibblesAndPeriod, FilterWritesSetTheirFields and UnmappedWriteStoresTheShadowOnly. -/
theorem witness_writes_on_mos6581 : State.reset.live ∧ State.reset.chip = .mos6581 := by decide

theorem witness_OutOfRangeWriteIsIgnored : 32 ≤ (0x20 : Byte).toNat ∧ 32 ≤ (0xFF : Byte).toNat := by decide

theorem witness_WriteOnMos8580IsHeld :
    (on8580 none).live ∧ (on8580 none).chip = .mos8580 ∧ (on8580 none).pending = none ∧
    (on8580 (some ⟨0x1F, 0xFF⟩)).live ∧ (on8580 (some ⟨0x1F, 0xFF⟩)).pending = some ⟨0x1F, 0xFF⟩ := by
  decide

theorem witness_WriteFrame :
    (∃ t, exec (writeAt 0x00 0xFF) State.reset = .next t) ∧ (∃ t, exec (writeAt 0x1F 0xFF) (on8580 none) = .next t) ∧
    (∃ t, exec (writeAt 0x04 0x21) (on8580 (some ⟨0x12, 0x08⟩)) = .next t) ∧
    (State.reset.shadow.wf = true ∧ State.reset.live ∧ State.reset.chip = .mos6581) ∧
    ((on8580 (some ⟨0x12, 0x08⟩)).shadow.wf = true ∧ (on8580 (some ⟨0x12, 0x08⟩)).live ∧
      (on8580 (some ⟨0x12, 0x08⟩)).chip = .mos8580 ∧ (on8580 (some ⟨0x12, 0x08⟩)).pending = some ⟨0x12, 0x08⟩) :=
  ⟨⟨_, rfl⟩, ⟨_, rfl⟩, ⟨_, rfl⟩, ⟨rfl, ⟨rfl, rfl⟩, rfl⟩, ⟨rfl, ⟨rfl, rfl⟩, rfl, rfl⟩⟩

theorem witness_ReadReturnsTapOrStoredByte :
    State.reset.live ∧ (0x1A : Addr) ≠ 0x1B ∧ (0x1A : Addr) ≠ 0x1C ∧ (0x1D : Addr) ≠ 0x1B ∧ (0x1D : Addr) ≠ 0x1C := by
  decide

theorem witness_OutOfRangeReadIsRefused :
    State.reset.live ∧ 32 ≤ (0x20 : Byte).toNat ∧ 32 ≤ (0xFF : Byte).toNat := by
  decide

theorem witness_AdvanceRunsCyclesThenFilters :
    ∃ x0 x1 x2 vin f e, (bypassed none).live ∧ (bypassed none).pending = none ∧ 1 ≤ 1 ∧
      voiceOutOf params (bypassed none).chip ((State.cycle params)^[1] (bypassed none)).osc
        ((State.cycle params)^[1] (bypassed none)).env .v0 = .ok x0 ∧
      voiceOutOf params (bypassed none).chip ((State.cycle params)^[1] (bypassed none)).osc
        ((State.cycle params)^[1] (bypassed none)).env .v1 = .ok x1 ∧
      voiceOutOf params (bypassed none).chip ((State.cycle params)^[1] (bypassed none)).osc
        ((State.cycle params)^[1] (bypassed none)).env .v2 = .ok x2 ∧
      filterAdvance params (bypassed none).chip (bypassed none).cfg 1 x0 x1 x2 (bypassed none).flt = .ok f ∧
      filterOutput params (bypassed none).chip (bypassed none).cfg f = .ok vin ∧
      extAdvance params (bypassed none).chip (bypassed none).cfg 1 vin (bypassed none).ext = .ok e := by
  obtain ⟨_, x0, x1, x2, vin, f, e, -, -, -, h0, h1, h2, hf, ho, he⟩ :=
    bypassed_advance 1 (bypassed none) (le_refl _) rfl rfl
  exact ⟨x0, x1, x2, vin, f, e, ⟨rfl, rfl⟩, rfl, le_refl _, h0, h1, h2, hf, ho, he⟩

/-- A state whose first filter step overflows on this machine, whatever the open numbers are. -/
def overflowing (p : Option HeldWrite) : State :=
  { on8580 p with flt := { State.reset.flt with vbp := 2147483647 } }

theorem overflowing_filter (p : Option HeldWrite) :
    ∃ x0 x1 x2,
      voiceOutOf params (overflowing p).chip ((State.cycle params)^[1] (overflowing p)).osc
        ((State.cycle params)^[1] (overflowing p)).env .v0 = .ok x0 ∧
      voiceOutOf params (overflowing p).chip ((State.cycle params)^[1] (overflowing p)).osc
        ((State.cycle params)^[1] (overflowing p)).env .v1 = .ok x1 ∧
      voiceOutOf params (overflowing p).chip ((State.cycle params)^[1] (overflowing p)).osc
        ((State.cycle params)^[1] (overflowing p)).env .v2 = .ok x2 ∧
      filterAdvance params (overflowing p).chip (overflowing p).cfg 1 x0 x1 x2 (overflowing p).flt =
        .error (.overflow .r188) := by
  obtain ⟨x0, e0, b0⟩ := voiceOutOf_bounds (overflowing p).chip ((State.cycle params)^[1] (overflowing p)).osc
    ((State.cycle params)^[1] (overflowing p)).env .v0
  obtain ⟨x1, e1, b1⟩ := voiceOutOf_bounds (overflowing p).chip ((State.cycle params)^[1] (overflowing p)).osc
    ((State.cycle params)^[1] (overflowing p)).env .v1
  obtain ⟨x2, e2, b2⟩ := voiceOutOf_bounds (overflowing p).chip ((State.cycle params)^[1] (overflowing p)).osc
    ((State.cycle params)^[1] (overflowing p)).env .v2
  obtain ⟨vi, vnf, hr, -⟩ :=
    route_of_bounds (overflowing p).flt x0 x1 x2 0 (by omega) (by omega) (by omega) (by omega)
  refine ⟨x0, x1, x2, e0, e1, e2, ?_⟩
  unfold filterAdvance
  rw [if_neg (by omega), show (overflowing p).cfg.extIn = 0 from rfl, hr, ok_bind]
  change svfStep params .r188 (w0Ceil1 params .mos8580 0) 20 vi { (overflowing p).flt with vnf := vnf } = _
  unfold svfStep
  generalize w0Ceil1 params .mos8580 0 = w
  change (checked params .r188 ((w : Int) * 0) >>= _) = _
  rw [Int.mul_zero, checked_of_fits _ _ _ (fits_zero params), ok_bind, Int.zero_shiftRight,
    checked_of_fits _ _ _ (fits_zero params), ok_bind]
  change (checked params .r188 ((w : Int) * 2147483647) >>= _) = _
  unfold checked
  cases h1 : fits params ((w : Int) * 2147483647) with
  | false => rfl
  | true =>
    have hw : (w : Int) ≤ 1 := by
      have hb := (fits_params _).1 h1
      omega
    have hs := shiftRight_bounds ((w : Int) * 2147483647) 2147483647 20 (by norm_num) (by omega) (by omega)
    have hl : fits params (((w : Int) * 2147483647) >>> (20 : Nat)) = true := by
      rw [fits_params]
      omega
    have hl' : fits params (0 - ((w : Int) * 2147483647) >>> (20 : Nat)) = true := by
      rw [fits_params]
      omega
    have hv : fits params (2147483647 - 0) = true := by
      rw [fits_params]
      omega
    have hq : fits params ((2147483647 - 0) * (q1024 0 : Int)) = false := by
      rw [Bool.eq_false_iff]
      intro hc
      have hb := (fits_params _).1 hc
      have h1448 : (q1024 0 : Int) = 1448 := by decide
      rw [h1448] at hb
      omega
    rw [if_pos rfl, ok_bind, hl, if_pos rfl, ok_bind]
    change ((if fits params (2147483647 - 0) then Except.ok (2147483647 - 0 : Int) else _) >>= _) = _
    rw [hv, if_pos rfl, ok_bind]
    change ((if fits params (0 - ((w : Int) * 2147483647) >>> (20 : Nat)) then Except.ok _ else _) >>= _) = _
    rw [hl', if_pos rfl, ok_bind]
    change ((if fits params ((2147483647 - 0) * (q1024 0 : Int)) then Except.ok _ else _) >>= _) = _
    rw [hq, if_neg (by decide)]
    rfl

/-- A lowpass state that a volume of 0 still lets through, with a louder volume held. -/
def overflowingLater : State :=
  { State.reset with
    chip := .mos8580, pending := some ⟨0x18, 0x1F⟩, cfg := ⟨true, false, 0⟩
    flt := { State.reset.flt with vlp := 1073741824 } }

theorem overflowingLater_step (w : Nat) (vi vnf : Int) (hi : -536870912 ≤ vi ∧ vi ≤ 536870912) :
    svfStep params .r188 w 20 vi { overflowingLater.flt with vnf := vnf } =
      .ok { overflowingLater.flt with vnf := vnf, vhp := -1073741824 - vi } := by
  unfold svfStep
  change (checked params .r188 ((w : Int) * 0) >>= _) = _
  rw [Int.mul_zero, checked_of_fits _ _ _ (fits_zero params), ok_bind, Int.zero_shiftRight,
    checked_of_fits _ _ _ (fits_zero params), ok_bind]
  change (checked params .r188 ((w : Int) * 0) >>= _) = _
  rw [Int.mul_zero, checked_of_fits _ _ _ (fits_zero params), ok_bind, Int.zero_shiftRight,
    checked_of_fits _ _ _ (fits_zero params), ok_bind]
  change (checked params .r188 0 >>= _) = _
  rw [checked_of_fits _ _ _ (fits_zero params), ok_bind]
  change (checked params .r188 1073741824 >>= _) = _
  rw [checked_of_fits _ _ 1073741824 (by rw [fits_params]; omega), ok_bind, Int.zero_mul,
    checked_of_fits _ _ _ (fits_zero params), ok_bind, Int.zero_shiftRight,
    checked_of_fits _ _ _ (fits_zero params), ok_bind,
    checked_of_fits _ _ (0 - 1073741824) (by rw [fits_params]; omega), ok_bind,
    checked_of_fits _ _ (0 - 1073741824 - vi) (by rw [fits_params]; omega), ok_bind]
  rw [Int.zero_sub]
  rfl

theorem overflowingLater_first : ∃ s1, overflowingLater.advanceCore params 1 = .ok s1 ∧ s1.flt.vlp = 1073741824 ∧
    s1.flt.vbp = 0 ∧ s1.cfg = ⟨true, false, 0⟩ := by
  obtain ⟨x0, e0, b0⟩ := voiceOutOf_bounds overflowingLater.chip ((State.cycle params)^[1] overflowingLater).osc
    ((State.cycle params)^[1] overflowingLater).env .v0
  obtain ⟨x1, e1, b1⟩ := voiceOutOf_bounds overflowingLater.chip ((State.cycle params)^[1] overflowingLater).osc
    ((State.cycle params)^[1] overflowingLater).env .v1
  obtain ⟨x2, e2, b2⟩ := voiceOutOf_bounds overflowingLater.chip ((State.cycle params)^[1] overflowingLater).osc
    ((State.cycle params)^[1] overflowingLater).env .v2
  obtain ⟨vi, vnf, hr, i1, i2, n1, n2⟩ :=
    route_of_bounds overflowingLater.flt x0 x1 x2 0 (by omega) (by omega) (by omega) (by omega)
  have hf : filterAdvance params overflowingLater.chip overflowingLater.cfg 1 x0 x1 x2 overflowingLater.flt =
      .ok { overflowingLater.flt with vnf := vnf, vhp := -1073741824 - vi } := by
    unfold filterAdvance
    rw [if_neg (by omega), show overflowingLater.cfg.extIn = 0 from rfl, hr, ok_bind]
    exact overflowingLater_step _ vi vnf ⟨i1, i2⟩
  have hd := params_filterDc_bounds overflowingLater.chip
  have ho : filterOutput params overflowingLater.chip overflowingLater.cfg
      { overflowingLater.flt with vnf := vnf, vhp := -1073741824 - vi } = .ok 0 := by
    unfold filterOutput
    have hm : ∀ x y z : Int, [if (0 : BitVec 3).getLsbD 0 then x else 0, if (0 : BitVec 3).getLsbD 1 then y else 0,
      if (0 : BitVec 3).getLsbD 2 then z else 0] = [0, 0, 0] := by intros; simp
    change (checkedSum params .r191 [if (0 : BitVec 3).getLsbD 0 then _ else 0, if (0 : BitVec 3).getLsbD 1 then _ else 0,
      if (0 : BitVec 3).getLsbD 2 then _ else 0] >>= _) = _
    rw [hm, checkedSum_of_bounds .r191 0 _ (le_refl _) (by simp) (by simp), ok_bind]
    change (checked params .r191 (vnf + 0) >>= _) = _
    rw [Int.add_zero, checked_of_fits _ _ vnf (by rw [fits_params]; omega), ok_bind,
      checked_of_fits _ _ (params.filterDc overflowingLater.chip) (by rw [fits_params]; omega), ok_bind,
      checked_of_fits _ _ (vnf + params.filterDc overflowingLater.chip) (by rw [fits_params]; omega), ok_bind]
    change checked params .r191 ((vnf + params.filterDc overflowingLater.chip) * 0) = _
    rw [Int.mul_zero, checked_of_fits _ _ _ (fits_zero params)]
  have hx := params_extDc_bounds overflowingLater.chip
  have he : extAdvance params overflowingLater.chip overflowingLater.cfg 1 0 overflowingLater.ext =
      .ok ⟨0, 0, 0 - params.extDc overflowingLater.chip⟩ := by
    unfold extAdvance
    rw [if_neg (by omega), show overflowingLater.cfg.extEnabled = false from rfl, if_neg (by simp)]
    rw [checked_of_fits _ _ (params.extDc _) (by rw [fits_params]; omega), ok_bind,
      checked_of_fits _ _ (0 - params.extDc _) (by rw [fits_params]; omega), ok_bind]
    rfl
  have hk := State.advanceCore_of_parts e0 e1 e2 hf ho he
  have hfr := State.advanceCore_frame hk
  exact ⟨_, hk, rfl, rfl, hfr.2.1⟩

theorem loud_error (s : State) (hc : s.cfg = ⟨true, false, 0⟩) (hv : s.flt.vlp = 1073741824) (hb : s.flt.vbp = 0)
    (hm : s.flt.mode = 1) (hl : s.flt.vol = 15) : ∃ f, s.advanceCore params 1 = .error f := by
  cases h : s.advanceCore params 1 with
  | error f => exact ⟨f, rfl⟩
  | ok t =>
    exfalso
    obtain ⟨x0, x1, x2, g, vin, e, e0, e1, e2, hf, ho, -, -⟩ := State.advanceCore_cases h
    obtain ⟨y0, f0, b0⟩ := voiceOutOf_bounds s.chip ((State.cycle params)^[1] s).osc ((State.cycle params)^[1] s).env .v0
    obtain ⟨y1, f1, b1⟩ := voiceOutOf_bounds s.chip ((State.cycle params)^[1] s).osc ((State.cycle params)^[1] s).env .v1
    obtain ⟨y2, f2, b2⟩ := voiceOutOf_bounds s.chip ((State.cycle params)^[1] s).osc ((State.cycle params)^[1] s).env .v2
    rw [e0] at f0
    rw [e1] at f1
    rw [e2] at f2
    cases f0
    cases f1
    cases f2
    obtain ⟨vi, vnf, hr, i1, i2, n1, n2⟩ :=
      route_of_bounds s.flt x0 x1 x2 0 (by omega) (by omega) (by omega) (by omega)
    unfold filterAdvance at hf
    rw [if_neg (by omega), hc, hr, ok_bind] at hf
    replace hf : svfStep params .r188 (w0Ceil1 params s.chip s.flt.fc) 20 vi { s.flt with vnf := vnf } = .ok g := hf
    have hg := (svfStep_cases hf).1
    have hg1 : g.vlp = 1073741824 := by rw [hg]; dsimp only; rw [hb, Int.mul_zero, Int.zero_shiftRight, hv]; rfl
    have hg2 : g.vnf = vnf := by rw [hg]
    have hg3 : g.mode = 1 := by rw [hg]; exact hm
    have hg4 : g.vol = 15 := by rw [hg]; exact hl
    have hd := params_filterDc_bounds s.chip
    unfold filterOutput at ho
    simp only [bind_eq_ok, checked_eq_ok] at ho
    obtain ⟨vf, hvf, a, ⟨-, ha⟩, dc, ⟨-, hdc⟩, b, ⟨-, hbb⟩, hx, -⟩ := ho
    have hs := checkedSum_eq_ok _ _ _ _ hvf
    rw [hg3, hg1] at hs
    replace hs : vf = 1073741824 := by rw [hs]; simp
    rw [hc] at ha
    replace ha : a = vnf + 1073741824 := by rw [ha, hg2, hs]; rfl
    rw [hg4, hbb, ha, hdc] at hx
    have hb15 : (((15 : BitVec 4).toNat : Nat) : Int) = 15 := rfl
    rw [hb15] at hx
    have := (fits_params _).1 hx
    omega

theorem witness_OverflowDiscardsTheAdvance :
    (overflowing none).live ∧ (overflowing none).pending = none ∧ 1 ≤ 1 ∧
    (overflowing none).advanceCore params 1 = .error (.overflow .r188) ∧
    (overflowing (some ⟨0x1F, 0xFF⟩)).live ∧ (overflowing (some ⟨0x1F, 0xFF⟩)).pending = some ⟨0x1F, 0xFF⟩ ∧
    (overflowing (some ⟨0x1F, 0xFF⟩)).advanceCore params 1 = .error (.overflow .r188) ∧
    ∃ s1 f, overflowingLater.live ∧ overflowingLater.pending = some ⟨0x18, 0x1F⟩ ∧ 2 ≤ 2 ∧
      overflowingLater.advanceCore params 1 = .ok s1 ∧
      ({ s1.apply params 0x18 0x1F with pending := none } : State).advanceCore params (2 - 1) = .error f := by
  have hall : ∀ p, (overflowing p).advanceCore params 1 = .error (.overflow .r188) := by
    intro p
    obtain ⟨x0, x1, x2, e0, e1, e2, hf⟩ := overflowing_filter p
    exact State.advanceCore_of_filter_error e0 e1 e2 hf
  obtain ⟨s1, h1, hv, hb, hc⟩ := overflowingLater_first
  obtain ⟨f, hf⟩ := loud_error { s1.apply params 0x18 0x1F with pending := none } hc hv hb rfl rfl
  exact ⟨⟨rfl, rfl⟩, rfl, le_refl _, hall _, ⟨rfl, rfl⟩, rfl, hall _, s1, f, ⟨rfl, rfl⟩, rfl, le_refl _, h1, hf⟩

theorem witness_HeldWriteTakesEffectAfterOneCycle :
    ∃ s1 t, (bypassed (some ⟨0x04, 0x21⟩)).live ∧ (bypassed (some ⟨0x04, 0x21⟩)).pending = some ⟨0x04, 0x21⟩ ∧
      (bypassed (some ⟨0x04, 0x21⟩)).advanceCore params 1 = .ok s1 ∧ 1 ≤ 1 ∧
      ({ s1.apply params 0x04 0x21 with pending := none } : State).advanceCore params 1 = .ok t := by
  obtain ⟨s1, _, _, _, _, _, _, h1, hc, hv, -⟩ :=
    bypassed_advance 1 (bypassed (some ⟨0x04, 0x21⟩)) (le_refl _) rfl rfl
  obtain ⟨t, _, _, _, _, _, _, h2, -⟩ :=
    bypassed_advance 1 { s1.apply params 0x04 0x21 with pending := none } (le_refl _)
      ((State.apply_cfg params s1 0x04 0x21).trans hc) (hv.trans rfl)
  exact ⟨s1, t, ⟨rfl, rfl⟩, rfl, h1, le_refl _, h2⟩

theorem witness_QuietAdvanceCompletes :
    State.reset.live ∧ State.reset.pending = none ∧ 1 ≤ 1 ∧ State.reset.cfg.filterEnabled = true ∧
    State.reset.cfg.extEnabled = true ∧ -134217728 ≤ State.reset.cfg.extIn ∧ State.reset.cfg.extIn < 134217728 ∧
    State.reset.flt.vhp = 0 ∧ State.reset.flt.vbp = 0 ∧ State.reset.flt.vlp = 0 ∧ State.reset.flt.filt = 0 ∧
    State.reset.flt.vol = 0 ∧ State.reset.ext = ⟨0, 0, 0⟩ := by
  decide

theorem witness_AdvanceFrame :
    (∃ t, exec (.advance 2) State.reset = .next t) ∧ (∃ t, exec (.advance 2) (on8580 (some ⟨0x04, 0x21⟩)) = .next t) :=
  ⟨⟨_, rfl⟩, ⟨_, rfl⟩⟩

/-- An advance by one cycle with both filters disabled and no held write. -/
theorem bypassed_exec (s : State) (hl : s.live) (hp : s.pending = none) (hc : s.cfg = ⟨false, false, 0⟩)
    (hv : s.flt.vol = 0) (n : Nat) (hn : 1 ≤ n) :
    ∃ t, exec (.advance n) s = .next t ∧ t.live ∧ t.pending = none ∧ t.cfg = ⟨false, false, 0⟩ ∧ t.flt.vol = 0 := by
  obtain ⟨t, _, _, _, _, _, _, h, hc', hv', -⟩ := bypassed_advance n s hn hc hv
  have hf := State.advanceCore_frame h
  refine ⟨t, ?_, ⟨hf.2.2.1.trans hl.1, hf.2.2.2.1.trans hl.2⟩, hf.2.2.2.2.2.2.2.2.1.trans hp, hc'.trans hc,
    hv'.trans hv⟩
  change afterOp s (s.advanceOp params n) = _
  rw [afterOp_live _ _ hl.1 hl.2]
  simp only [State.advanceOp, State.advanceChecked, show n ≠ 0 by omega, if_false, hp, h, State.orRaise_ok]

theorem witness_VoicesDoNotDependOnTheSplit :
    ∃ s1 s2 t, exec (.advance 1) (bypassed none) = .next s1 ∧ exec (.advance 1) s1 = .next s2 ∧
      exec (.advance (1 + 1)) (bypassed none) = .next t ∧ s2.live ∧ t.live := by
  obtain ⟨s1, h1, hl1, hp1, hc1, hv1⟩ := bypassed_exec (bypassed none) ⟨rfl, rfl⟩ rfl rfl rfl 1 (le_refl _)
  obtain ⟨s2, h2, hl2, -⟩ := bypassed_exec s1 hl1 hp1 hc1 hv1 1 (le_refl _)
  obtain ⟨t, h3, hl3, -⟩ := bypassed_exec (bypassed none) ⟨rfl, rfl⟩ rfl rfl rfl (1 + 1) (by omega)
  exact ⟨s1, s2, t, h1, h2, h3, hl2, hl3⟩

/-- The four readings of OscillatorCycle, each at its boundary. -/
theorem witness_OscillatorCycle :
    (({ osc 0x7FFFFF 1 with test := true, srResetCnt := 1 } : Osc).cycle T .mos6581).sr = 0x7FFFFF ∧
    (({ osc 0x7FFFFF 1 with test := true, sr := 0, srResetCnt := 2 } : Osc).cycle T .mos6581).sr = 0 ∧
    ((osc 0x7FFFFF 1).cycle T .mos6581).msbRising = true ∧ ((osc 0xFFFFFF 1).cycle T .mos6581).msbRising = false := by
  decide

theorem witness_HeldTestBitResetsTheNoiseRegister :
    T.srResetMode = .jump ∧ ({ osc 0 1 with test := true, srResetCnt := 1 } : Osc).test = true ∧
    1 ≤ ({ osc 0 1 with test := true, srResetCnt := 1 } : Osc).srResetCnt := by
  decide

theorem witness_ZeroNoiseRegisterLocksUp :
    ({ osc 0 1 with sr := 0 } : Osc).test = false ∧ ({ osc 0 1 with sr := 0 } : Osc).sr = 0 := by
  decide

theorem witness_FloatingOutputHoldsThenReadsZero :
    ({ osc 0 1 with floatCnt := 1, floatVal := 0x123 } : Osc).sel = 0 ∧
    1 ≤ ({ osc 0 1 with floatCnt := 1, floatVal := 0x123 } : Osc).floatCnt := by
  decide

theorem witness_AccumulatorAfterCycles :
    (up.osc.get .v2).test = false ∧
    ∀ k, k < 2 → doSync T (((State.cycle T)^[k] up).osc.map (Osc.cycle T up.chip)) .v2 = false := by
  refine ⟨by decide, ?_⟩
  intro k hk
  interval_cases k <;> decide

theorem witness_BaseWaveforms :
    ((osc 0x800000 0).acc.getLsbD 23 ^^ ((osc 0x800000 0).ring && true)) = true ∧
    ((osc 0x7FFFFF 0).acc.getLsbD 23 ^^ ((osc 0x7FFFFF 0).ring && true)) = false ∧
    (({ osc 0x7FFFFF 0 with ring := true } : Osc).acc.getLsbD 23 ^^ (true && true)) = true := by
  decide

theorem witness_SyncStepZeroesSyncedVoices :
    let o : Triple Osc := ⟨{ osc 1 1 with sync := true }, osc 2 1, { osc 3 1 with msbRising := true }⟩
    ((syncStep T o).get .v0).acc = 0 ∧ ((syncStep T o).get .v1).acc = 2 ∧ ((syncStep T o).get .v2).acc = 3 := by
  decide

theorem witness_TestedSourceNeverSyncs :
    let s : State := { up with osc := { up.osc with v2 := { up.osc.v2 with test := true } } }
    (s.osc.get (src .v0)).test = true := by
  decide

theorem witness_GatePipelineEntersItsState :
    env0.pipeCnt = 0 ∧ 2 ≤ ({ env0 with pipeCnt := 2 } : Env).pipeCnt ∧
    (({ env0 with pipeCnt := 1, pipeNext := .attack } : Env).pipeCnt = 1 ∧
      ({ env0 with pipeCnt := 1, pipeNext := .attack } : Env).pipeNext = .attack) ∧
    (({ env0 with pipeCnt := 1 } : Env).pipeCnt = 1 ∧ ({ env0 with pipeCnt := 1 } : Env).pipeNext = .release) := by
  decide

/-- No tick, a tick, and the wraparound at 0x7FFF. -/
theorem witness_RateCounterTicksAtThePeriod :
    rateNext T 7 ≠ env0.ratePeriod ∧ rateNext T 8 = env0.ratePeriod ∧ rateNext T 0x7FFF = 0 ∧
    (let e : Env := { env0 with rateCnt := 8, attack := 1, pipeCnt := 1, pipeNext := .attack }
     rateNext T (e.pipelineStep T).rateCnt ≠ (e.pipelineStep T).ratePeriod ∧
       e.cycle T = { e with state := .attack, ratePeriod := 32, rateCnt := 9, pipeCnt := 0 }) ∧
    (let e : Env := { env0 with rateCnt := 31, attack := 1, pipeCnt := 1, pipeNext := .attack }
     rateNext T (e.pipelineStep T).rateCnt = (e.pipelineStep T).ratePeriod ∧ (e.cycle T).cnt = 0xAB) := by
  decide

theorem witness_AttackTick :
    ({ env0 with state := .attack, cnt := 0xFD } : Env).state = .attack ∧ (0xFD : Byte).toNat < 0xFE ∧
    0xFE ≤ (0xFE : Byte).toNat ∧ 0xFE ≤ (0xFF : Byte).toNat ∧
    (0xFE : Byte) ≠ 0xFF ∧ ((Env.tick T { env0 with state := .attack, cnt := 0x5D }).expPeriod = .p1) := by
  decide

/-- Not due, due and held, due and stepping, in DECAY_SUSTAIN and RELEASE. -/
theorem witness_DecayAndReleaseTick :
    ({ env0 with expPeriod := .p2 } : Env).state ≠ .attack ∧ 0 + 1 ≠ ExpPeriod.p2.ticks ∧ 1 + 1 = ExpPeriod.p2.ticks ∧
    ({ env0 with holdZero := true, cnt := 0 } : Env).holdZero = true ∧
    ({ env0 with state := .decaySustain, cnt := 0x11, sustain := 1 } : Env).state ≠ .attack ∧
    env0.expCnt + 1 = env0.expPeriod.ticks ∧ env0.holdZero = false ∧
    (Env.tick { T with expPeriodMode := .latched } { env0 with cnt := 0x5E }).expPeriod = .p2 ∧
    (Env.tick { T with expPeriodMode := .latched } { env0 with cnt := 0x5D, expPeriod := .p1 }).expPeriod = .p1 := by
  decide

theorem witness_ExponentialPeriodFollowsTheCounter :
    T.expPeriodMode = .step ∧ ({ T with expPeriodMode := .latched } : Params).expPeriodMode = .latched ∧
    (({ env0 with cnt := 0x5D } : Env).expUpdate T).expPeriod = .p2 ∧
    (({ env0 with cnt := 0x5C } : Env).expUpdate { T with expPeriodMode := .latched }).expPeriod = .p1 := by
  decide

/-- The counter below, at and above the period. -/
theorem witness_RateWraparoundDelay :
    ({ env0 with rateCnt := 8 } : Env).pipeCnt = 0 ∧ ({ env0 with rateCnt := 8 } : Env).ratePeriod ≠ 0 ∧
    ({ env0 with rateCnt := 9 } : Env).pipeCnt = 0 ∧ ({ env0 with rateCnt := 0x7FFF } : Env).ratePeriod ≠ 0 ∧
    9 - 8 < ({ env0 with rateCnt := 8, pipeCnt := 2 } : Env).pipeCnt := by
  decide

/-- A frozen envelope in RELEASE that no event is pending for. -/
def frozen : Env := { Env.atReset params with cnt := 0, holdZero := true, expPeriod := .p1 }

theorem witness_FrozenEnvelopeStaysFrozen :
    frozen.Inv params ∧ frozen.holdZero = true ∧ (frozen.cycle params).state ≠ .attack := by
  have hs : frozen.state = .release := rfl
  have hp : frozen.pipelineStep params = frozen := rfl
  refine ⟨⟨by decide, fun _ => ⟨rfl, by decide⟩, rfl, fun h => absurd rfl h, fun _ => by decide, fun _ => rfl⟩, rfl, ?_⟩
  unfold Env.cycle Env.rateStep
  rw [hp]
  split
  · change ((Env.expTick { frozen with rateCnt := 0 } _).state ≠ .attack)
    unfold Env.expTick
    split
    · decide
    · decide
  · decide

theorem witness_DecayStopsAtTheSustainLevel :
    let e : Env := { env0 with state := .decaySustain, sustain := 0xA, cnt := 0xAA }
    e.state = .decaySustain ∧ e.pipeCnt ≠ 1 ∧ ({ e with pipeCnt := 2 } : Env).pipeCnt ≠ 1 ∧ e.sustain.toNat * 0x11 ≤ e.cnt.toNat := by
  decide

theorem witness_RoutingSums :
    (route T { flt0 with voice3off := true } 1280 (-1280) 12800 25600).toOption = some (0, 200) ∧
    (route T { flt0 with filt := 0xF } 1280 (-1280) 12800 25600).toOption = some (300, 0) := by
  decide

theorem witness_FilterStepEquations :
    (svfStep1 T .mos6581 1000 { flt0 with fc := 0x400 }).toOption = some { flt0 with fc := 0x400, vhp := -1000 } ∧
    (svfSubStep T .mos6581 1000 { flt0 with fc := 0x400, vhp := -1000 } 4).toOption.isSome = true ∧
    (⟨true, true, 0⟩ : Cfg).filterEnabled = true ∧
    (route T { flt0 with filt := 1 } 1280 2560 0 0).toOption = some (10, 20) ∧
    (1 ≤ 8 ∧ 8 ≤ 8) ∧ 1 ≤ 1 ∧
    (svfStepsDt T .mos6581 20 1000 { flt0 with fc := 0x400 }).toOption.isSome = true := by
  decide

theorem witness_DisabledFilterBypassesEverything :
    1 ≤ 1 ∧ (⟨false, true, 0⟩ : Cfg).filterEnabled = false ∧
    (filterAdvance T .mos6581 ⟨false, true, 0⟩ 1 1280 2560 0 { flt0 with filt := 1 }).toOption =
      some { flt0 with filt := 1, vnf := 30 } := by
  decide

theorem witness_FilterOutputFormula :
    (filterOutput T .mos6581 Cfg.atPowerUp { flt0 with mode := 7, vol := 1, vhp := -111, vbp := 487, vlp := -201 }).toOption =
      some 175 := by
  decide

theorem witness_ExternalFilterEquations :
    (extSubStep T 4096 ⟨0, 0, 0⟩ 1).toOption = some ⟨409, 0, 0⟩ ∧ 1 ≤ 1 ∧
    (⟨true, false, 0⟩ : Cfg).extEnabled = false ∧
    (extAdvance T .mos6581 ⟨true, false, 0⟩ 1 1000 ⟨9, 0, 0⟩).toOption = some ⟨0, 0, 1000⟩ ∧
    (⟨true, true, 0⟩ : Cfg).extEnabled = true ∧ (1 ≤ 8 ∧ 8 ≤ 8) := by
  decide

theorem witness_OnlyAdvanceAndResetMoveTheFilters :
    (∃ t, exec (.audioOutput 16) State.reset = .next t) ∧ (∀ n, Instr.audioOutput 16 ≠ .advance n) ∧
    Instr.audioOutput 16 ≠ .reset :=
  ⟨⟨_, rfl⟩, fun _ h => (nomatch h), fun h => (nomatch h)⟩

/-- For ResetRestoresResetValues and ConfigurationSetters. -/
theorem witness_live_on_both_chips : State.reset.live ∧ (on8580 (some ⟨0x18, 0x0F⟩)).live := by decide

theorem witness_SetChipTypeFlushesThenSwitches :
    (on8580 none).live ∧ (on8580 none).pending = none ∧ (on8580 (some ⟨0x18, 0x0F⟩)).pending = some ⟨0x18, 0x0F⟩ := by
  decide

theorem witness_ConfigurationChangesOnlyBySetters :
    (∃ t, exec .reset State.reset = .next t) ∧ (∀ b, Instr.reset ≠ .setFilterEnable b) ∧
    (∀ b, Instr.reset ≠ .setExtEnable b) ∧ (∀ x, Instr.reset ≠ .setExtInput x) ∧ (∀ c, Instr.reset ≠ .setChipType c) :=
  ⟨⟨_, rfl⟩, fun _ h => (nomatch h), fun _ h => (nomatch h), fun _ h => (nomatch h), fun _ h => (nomatch h)⟩

theorem witness_AudioOutputClampsTheSample :
    let s : State := { State.reset with ext := ⟨0, 0, -2147483648⟩ }
    s.live ∧ -2147483648 ≤ s.ext.vo ∧ s.ext.vo ≤ 2147483647 ∧ (1 ≤ 1 ∧ 1 ≤ 32) ∧ (1 ≤ 32 ∧ 32 ≤ 32) ∧
    ((0 : Nat) = 0 ∨ 33 ≤ 0) ∧ ((33 : Nat) = 0 ∨ 33 ≤ 33) := by
  decide

/-- A block on MOS8580 with a held write and a word waiting that meets the invariant. -/
theorem witness_StepKeepsTheInvariant :
    ∃ s t : State, s.Inv ∧ s.pending = some ⟨0x04, 0x21⟩ ∧ s.stream = [0x10001B00] ∧ step s = .next t := by
  have he : frozen.Inv params := witness_FrozenEnvelopeStaysFrozen.1
  have ho : (osc 0x123456 0x1CD6).Inv := by decide
  have h0 := fits_zero params
  refine ⟨{ on8580 (some ⟨0x04, 0x21⟩) with
      osc := ⟨osc 0x123456 0x1CD6, osc 0x123456 0x1CD6, osc 0x123456 0x1CD6⟩, env := ⟨frozen, frozen, frozen⟩,
      stream := [0x10001B00] }, _, ⟨fun v => by cases v <;> exact ho, fun v => by cases v <;> exact he, rfl,
      fun h => absurd h (by decide), ⟨h0, h0, h0, h0⟩, ⟨h0, h0, h0⟩, by decide⟩, rfl, rfl, rfl⟩

end Sys2Proof.Tests
end

/-!
PROOFS. The statements about the state of the block: every step keeps the invariant of Safety.lean, RESET restores the
reset values, and configuration and chip type change by their own setters only.
-/

namespace Sys2Proof.Machine

/-! ### Edges -/

theorem risingEdge_eq_true {old new : Bool} : risingEdge old new = true ↔ old = false ∧ new = true := by
  simp [risingEdge]

theorem fallingEdge_eq_true {old new : Bool} : fallingEdge old new = true ↔ old = true ∧ new = false := by
  simp [fallingEdge]

theorem eq_of_no_edge {old new : Bool} (hr : ¬ risingEdge old new = true) (hf : ¬ fallingEdge old new = true) :
    old = new := by
  rw [risingEdge_eq_true] at hr
  rw [fallingEdge_eq_true] at hf
  cases old <;> cases new <;> simp_all

/-! ### The oscillator keeps its invariant -/

/-- A sync reset of the accumulator suits every oscillator (44_voice_sync R224). -/
theorem Osc.Inv.clearAcc {o : Osc} (h : o.Inv) : Osc.Inv { o with acc := 0 } :=
  ⟨fun _ => rfl, h.2⟩

theorem Osc.Inv.cycle (P : Params) (c : Chip) {o : Osc} (h : o.Inv) : (o.cycle P c).Inv := by
  obtain ⟨hacc, hsr, hfloat⟩ := h
  refine ⟨fun ht => ?_, fun ht => ?_, fun hs => ?_⟩
  · rw [Osc.cycle_test] at ht
    rw [(o.cycle_tested P c ht).1, hacc ht]
  · rw [Osc.cycle_test] at ht
    rw [(o.cycle_untested P c ht).2, hsr ht]
  · rw [Osc.cycle_sel] at hs
    rw [o.cycle_floatCnt P c hs, hfloat hs]

/-- The test bit's edges put the accumulator and the shift-register countdown right for the new test bit
(40_oscillator R104, R122). -/
theorem Osc.testEdge_spec (P : Params) (c : Chip) {o : Osc} {old : Bool}
    (hacc : old = true → o.acc = 0) (hsr : old = false → o.srResetCnt = 0) :
    ((o.testEdge P c old o.test).test = true → (o.testEdge P c old o.test).acc = 0) ∧
      ((o.testEdge P c old o.test).test = false → (o.testEdge P c old o.test).srResetCnt = 0) := by
  unfold Osc.testEdge
  split
  · next hrise =>
    obtain ⟨-, hnew⟩ := risingEdge_eq_true.1 hrise
    exact ⟨fun _ => rfl, fun ht => absurd (ht.symm.trans hnew) Bool.false_ne_true⟩
  · next hrise =>
    split
    · next hfall =>
      obtain ⟨-, hnew⟩ := fallingEdge_eq_true.1 hfall
      exact ⟨fun ht => absurd (hnew.symm.trans ht) Bool.false_ne_true, fun _ => rfl⟩
    · next hfall =>
      have hsame := eq_of_no_edge hrise hfall
      exact ⟨fun ht => hacc (hsame.trans ht), fun ht => hsr (hsame.trans ht)⟩

theorem Osc.testEdge_sel (P : Params) (c : Chip) (o : Osc) (old new : Bool) :
    (o.testEdge P c old new).sel = o.sel := by
  unfold Osc.testEdge
  split_ifs <;> rfl

/-- The floating entry arms its countdown only with selector 0 and clears it with any other (40_oscillator R121). -/
theorem Osc.floatEntry_inv (P : Params) (c : Chip) {o : Osc} (oldSel : BitVec 4) (out : BitVec 12)
    (htest : o.test = true → o.acc = 0) (hsr : o.test = false → o.srResetCnt = 0) :
    (o.floatEntry P c oldSel o.sel out).Inv := by
  unfold Osc.floatEntry
  split
  · next hnew => exact ⟨htest, hsr, fun hs => absurd hnew.2 hs⟩
  · split
    · exact ⟨htest, hsr, fun _ => rfl⟩
    · next hsel => exact ⟨htest, hsr, fun hs => absurd hs hsel⟩

theorem Osc.Inv.writeControl (P : Params) (c : Chip) {o : Osc} (h : o.Inv) (out : BitVec 12) (d : Byte) :
    (o.writeControl P c out d).Inv := by
  obtain ⟨hacc, hsr, -⟩ := h
  have hedge := Osc.testEdge_spec P c
    (o := { o with sel := hiNibble d, test := ctlTest d, ring := ctlRing d, sync := ctlSync d }) hacc hsr
  have hentry := Osc.floatEntry_inv P c o.sel out hedge.1 hedge.2
  rwa [Osc.testEdge_sel] at hentry

/-! ### The envelope generator keeps its invariant -/

section Envelope

variable {P : Params} {e : Env}

theorem ExpPeriod.ticks_pos (p : ExpPeriod) : 0 < p.ticks := by
  cases p <;> decide

/-- A gate event that ends enters the state its gate bit calls for, with that state's rate period (41_envelope R146,
R148). -/
theorem Env.Inv.enterState (h : e.Inv P) (g : GateTarget) (hg : g = if e.gate then .attack else .release) :
    (Env.enterState P { e with pipeCnt := 0 } g).Inv P := by
  obtain ⟨hexp, hheld, -, -, -, hmode⟩ := h
  by_cases hgate : e.gate = true
  · rw [if_pos hgate] at hg
    subst hg
    exact ⟨hexp, fun hz => absurd hz Bool.false_ne_true, rfl, fun hc => absurd rfl hc,
      fun _ => iff_of_true hgate (by simp [Env.enterState]), hmode⟩
  · rw [if_neg hgate] at hg
    subst hg
    exact ⟨hexp, fun hz => ⟨(hheld hz).1, by simp [Env.enterState]⟩, rfl, fun hc => absurd rfl hc,
      fun _ => iff_of_false hgate (by simp [Env.enterState]), hmode⟩

theorem Env.Inv.pipelineStep (h : e.Inv P) : (e.pipelineStep P).Inv P := by
  have ⟨hexp, hheld, hrate, hpending, _, hmode⟩ := h
  unfold Env.pipelineStep
  split
  · exact h
  · next hne =>
    split
    · exact h.enterState e.pipeNext (hpending hne)
    · next hne1 =>
      exact ⟨hexp, hheld, hrate, fun _ => hpending hne, fun hc => absurd hc (by dsimp only; omega), hmode⟩

/-- A change of the counter at an exponential count of 0: the period and the hold flag follow it, and only a counter
outside ATTACK may reach 0 (41_envelope R152). -/
theorem Env.Inv.changeCnt (h : e.Inv P) (h0 : e.expCnt = 0) (hfree : e.holdZero = false) (c : Byte)
    (hc : c = 0 → e.state ≠ .attack) : (Env.expUpdate P { e with cnt := c }).Inv P := by
  obtain ⟨-, -, hrate, hpending, hsettled, -⟩ := h
  refine ⟨?_, fun hz => ?_, hrate, hpending, hsettled, fun hm => ?_⟩
  · change e.expCnt < _
    rw [h0]
    exact ExpPeriod.ticks_pos _
  · have hzero : c = 0 := by simpa [Env.expUpdate, holdZeroAfter, hfree] using hz
    exact ⟨hzero, hc hzero⟩
  · simp [Env.expUpdate, hm]

/-- The end of ATTACK selects DECAY_SUSTAIN and its rate period (41_envelope R146, R153). -/
theorem Env.Inv.endAttack (h : e.Inv P) (hs : e.state = .attack) :
    Env.Inv P { e with state := .decaySustain, ratePeriod := P.ratePeriod e.decay } := by
  obtain ⟨hexp, hheld, -, hpending, hsettled, hmode⟩ := h
  exact ⟨hexp, fun hz => absurd hs (hheld hz).2, rfl, hpending,
    fun hp => iff_of_true ((hsettled hp).2 (by simp [hs])) (by simp), hmode⟩

theorem Env.Inv.attackStep (h : e.Inv P) (h0 : e.expCnt = 0) (hs : e.state = .attack) :
    (e.attackStep P).Inv P := by
  have ⟨_, hheld, _⟩ := h
  have hfree : e.holdZero = false := by
    cases hz : e.holdZero with
    | false => rfl
    | true => exact absurd hs (hheld hz).2
  unfold Env.attackStep
  split
  · next hfull =>
    simp only [hfull, if_true]
    rw [← hfull]
    exact h.endAttack hs
  · next hnot =>
    have hup := h.changeCnt h0 hfree (e.cnt + 1) (fun hz => absurd hz (by bv_omega))
    dsimp only
    split
    · exact hup.endAttack hs
    · exact hup

theorem Env.Inv.decayStep (h : e.Inv P) (h0 : e.expCnt = 0) (hfree : e.holdZero = false)
    (hs : e.state = .decaySustain) : (e.decayStep P).Inv P := by
  unfold Env.decayStep
  split
  · exact h.changeCnt h0 hfree _ (fun _ => by simp [hs])
  · exact h

theorem Env.Inv.releaseStep (h : e.Inv P) (h0 : e.expCnt = 0) (hfree : e.holdZero = false)
    (hs : e.state = .release) : (e.releaseStep P).Inv P := by
  unfold Env.releaseStep
  split
  · next hz =>
    obtain ⟨hexp, -, hrate, hpending, hsettled, hmode⟩ := h
    exact ⟨hexp, fun _ => ⟨hz, by simp [hs]⟩, hrate, hpending, hsettled, hmode⟩
  · exact h.changeCnt h0 hfree _ (fun _ => by simp [hs])

/-- The exponential counter may be set to any count below its period (10_state R26). -/
theorem Env.Inv.setExpCnt (h : e.Inv P) {n : Nat} (hn : n < e.expPeriod.ticks) : Env.Inv P { e with expCnt := n } :=
  ⟨hn, h.2⟩

/-- A tick outside ATTACK counts below the period, or starts the period again and perhaps runs `step`, which may
presume a counter that is not held (41_envelope R151). -/
theorem Env.Inv.expTick (h : e.Inv P) {step : Env → Env}
    (hstep : Env.Inv P { e with expCnt := 0 } → e.holdZero = false → (step { e with expCnt := 0 }).Inv P) :
    (e.expTick step).Inv P := by
  have hrestart := h.setExpCnt (ExpPeriod.ticks_pos _)
  have hexp := h.1
  unfold Env.expTick
  split
  · exact h.setExpCnt (by omega)
  · split
    · exact hrestart
    · next hz => exact hstep hrestart (by simpa using hz)

theorem Env.Inv.tick (h : e.Inv P) : (e.tick P).Inv P := by
  unfold Env.tick
  split
  · next hs => exact (h.setExpCnt (ExpPeriod.ticks_pos _)).attackStep rfl hs
  · next hs => exact h.expTick fun hr hz => hr.decayStep rfl hz hs
  · next hs => exact h.expTick fun hr hz => hr.releaseStep rfl hz hs

/-- The rate counter is free (41_envelope R149). -/
theorem Env.Inv.setRateCnt (h : e.Inv P) (n : BitVec 15) : Env.Inv P { e with rateCnt := n } := h

theorem Env.Inv.cycle (h : e.Inv P) : (e.cycle P).Inv P := by
  have hp := h.pipelineStep
  unfold Env.cycle Env.rateStep
  split
  · exact (hp.setRateCnt 0).tick
  · exact hp.setRateCnt _

/-- A gate edge starts a delay of at least one cycle towards the state the new gate bit calls for (41_envelope
R147). -/
theorem Env.Inv.gateWrite (hP : P.Legal) (h : e.Inv P) (g : Bool) : (e.gateWrite P g).Inv P := by
  obtain ⟨-, -, hon, hoff, -⟩ := hP
  obtain ⟨hexp, hheld, hrate, hpending, hsettled, hmode⟩ := h
  unfold Env.gateWrite
  split
  · next hrise =>
    obtain ⟨-, rfl⟩ := risingEdge_eq_true.1 hrise
    exact ⟨hexp, hheld, hrate, fun _ => rfl, fun hc => absurd hc (by dsimp only; omega), hmode⟩
  · next hrise =>
    split
    · next hfall =>
      obtain ⟨-, rfl⟩ := fallingEdge_eq_true.1 hfall
      exact ⟨hexp, hheld, hrate, fun _ => rfl, fun hc => absurd hc (by dsimp only; omega), hmode⟩
    · next hfall =>
      obtain rfl := eq_of_no_edge hrise hfall
      exact ⟨hexp, hheld, hrate, hpending, hsettled, hmode⟩

/-- The nibbles may change when the rate period is that of the current state's new nibble (41_envelope R146). -/
theorem Env.Inv.setNibbles (h : e.Inv P) (a d s r : BitVec 4) (p : BitVec 15)
    (hp : p = Env.periodFor P { e with attack := a, decay := d, sustain := s, release := r } e.state) :
    Env.Inv P { e with attack := a, decay := d, sustain := s, release := r, ratePeriod := p } := by
  obtain ⟨hexp, hheld, -, hpending, hsettled, hmode⟩ := h
  exact ⟨hexp, hheld, hp, hpending, hsettled, hmode⟩

theorem Env.Inv.ratePeriod_eq (h : e.Inv P) : e.ratePeriod = e.periodFor P e.state := by
  obtain ⟨-, -, hrate, -⟩ := h
  exact hrate

theorem Env.Inv.writeAttackDecay (h : e.Inv P) (d : Byte) : (e.writeAttackDecay P d).Inv P := by
  unfold Env.writeAttackDecay
  dsimp only
  split
  · next hs => exact h.setNibbles _ _ _ _ _ (by simp [Env.periodFor, hs])
  · next hs => exact h.setNibbles _ _ _ _ _ (by simp [Env.periodFor, hs])
  · next hs => exact h.setNibbles _ _ _ _ _ (by simp [h.ratePeriod_eq, Env.periodFor, hs])

theorem Env.Inv.writeSustainRelease (h : e.Inv P) (d : Byte) : (e.writeSustainRelease P d).Inv P := by
  unfold Env.writeSustainRelease
  dsimp only
  split
  · next hs => exact h.setNibbles _ _ _ _ _ (by simp [Env.periodFor, hs])
  · next hs => exact h.setNibbles _ _ _ _ _ (by simp [h.ratePeriod_eq, Env.periodFor, hs])
  · next hs => exact h.setNibbles _ _ _ _ _ (by simp [h.ratePeriod_eq, Env.periodFor, hs])

end Envelope

/-! ### Reset values and the power-up state -/

theorem Osc.atReset_inv (P : Params) : (Osc.atReset P).Inv :=
  ⟨fun ht => absurd ht Bool.false_ne_true, fun _ => rfl, fun _ => rfl⟩

/-- EXP_INIT is the period of the counter in STEP mode and 1 in LATCHED mode (10_state R33). -/
theorem expInit_eq (P : Params) :
    expInit P = if P.expPeriodMode = .step then expPeriodOf P.envPowerup else .p1 := by
  unfold expInit
  cases P.expPeriodMode <;> rfl

theorem Env.atReset_inv (P : Params) : (Env.atReset P).Inv P :=
  ⟨ExpPeriod.ticks_pos _, fun hz => absurd hz Bool.false_ne_true, rfl, fun hc => absurd rfl hc,
    fun _ => iff_of_false Bool.false_ne_true (fun hs => hs rfl), fun hm => by simp [Env.atReset, expInit_eq, hm]⟩

/-- After RESET only the kept configuration bears on the invariant (45_chip R250). -/
theorem State.resetOp_inv {s : State} (hcfg : -134217728 ≤ s.cfg.extIn ∧ s.cfg.extIn < 134217728) :
    (s.resetOp params).Inv := by
  have h0 := fits_zero params
  exact ⟨fun v => by cases v <;> exact Osc.atReset_inv params, fun v => by cases v <;> exact Env.atReset_inv params,
    rfl, fun _ => rfl, ⟨h0, h0, h0, h0⟩, ⟨h0, h0, h0⟩, hcfg⟩

/-- RESET leaves the power-up state as it is (45_chip R250, 70_reset R302). -/
theorem State.resetOp_powerUp (P : Params) : (State.powerUp P).resetOp P = State.powerUp P := rfl

theorem State.reset_live : State.reset.live := ⟨rfl, rfl⟩

/-! ### The state keeps its invariant -/

section Block

variable {s t : State}

theorem State.Inv.raise (h : s.Inv) (f : Fault) : (s.raise f).Inv := by
  unfold State.raise
  split <;> exact h

theorem State.Inv.refuse (h : s.Inv) (r : Refusal) : (s.refuse r).Inv := by
  unfold State.refuse
  split <;> exact h

theorem State.Inv.setResult (h : s.Inv) (r : HostResult) : (s.setResult r).Inv := h

theorem State.Inv.takeWord (h : s.Inv) : s.takeWord.Inv := h

theorem State.Inv.orRaise (h : s.Inv) {x : Except Fault State} (hx : ∀ t, x = .ok t → t.Inv) :
    (s.orRaise x).Inv := by
  cases x with
  | ok t => exact hx t rfl
  | error f => exact h.raise f

/-- A register write reaches the voices by their own writes, the shadow by a write of the register space, and no
signed quantity (45_chip R241, 20_memory R60). -/
theorem State.Inv.apply (h : s.Inv) (a : Addr) (d : Byte) : (s.apply params a d).Inv := by
  obtain ⟨hosc, henv, hshadow, hpending, hflt, hext, hcfg⟩ := h
  refine ⟨fun v => ?_, fun v => ?_, ?_, ?_, ?_, ?_, ?_⟩
  · have ho := hosc v
    rcases State.apply_osc_cases params s a d v with hv | hv | hv | hv | hv | hv <;> rw [hv]
    · exact ho
    · exact ho
    · exact ho
    · exact ho
    · exact ho
    · exact ho.writeControl params _ _ d
  · have he := henv v
    rcases State.apply_env_cases params s a d v with hv | hv | hv | hv <;> rw [hv]
    · exact he
    · exact he.gateWrite params_legal _
    · exact he.writeAttackDecay d
    · exact he.writeSustainRelease d
  · rw [State.apply_shadow]
    exact Memory.wf_write _ _ _ hshadow a.isLt
  · rw [State.apply_chip, State.apply_pending]
    exact hpending
  · obtain ⟨hhp, hbp, hlp, hnf⟩ := State.apply_signed params s a d
    rwa [hhp, hbp, hlp, hnf]
  · rwa [State.apply_ext]
  · rwa [State.apply_cfg]

/-- The pipeline may hold what it will, but nothing on MOS6581 (20_memory R66). -/
theorem State.Inv.setPending (h : s.Inv) (p : Option HeldWrite) (hp : s.chip = .mos6581 → p = none) :
    (s.setPending p).Inv := by
  obtain ⟨hosc, henv, hshadow, -, hrest⟩ := h
  exact ⟨hosc, henv, hshadow, hp, hrest⟩

theorem State.Inv.flush (h : s.Inv) : (s.flush params).Inv := by
  unfold State.flush
  split
  · exact (h.apply _ _).setPending none (fun _ => rfl)
  · exact h

theorem State.Inv.writeInRange (h : s.Inv) (a : Addr) (d : Byte) : (s.writeInRange params a d).Inv := by
  unfold State.writeInRange
  split
  · exact h.apply a d
  · next hc =>
    obtain ⟨-, -, -, -, -, -, hchip⟩ := State.flush_frame params s
    exact h.flush.setPending _ (fun h6581 => absurd (hchip.symm.trans h6581) (by simp [hc]))

/-- The chip type may change while nothing is held (45_chip R251). -/
theorem State.Inv.setChip (h : s.Inv) (hp : s.pending = none) (c : Chip) : (s.setChip c).Inv := by
  obtain ⟨hosc, henv, hshadow, -, hrest⟩ := h
  exact ⟨hosc, henv, hshadow, fun _ => hp, hrest⟩

theorem State.Inv.setChipTypeOp (h : s.Inv) (c : Chip) : (s.setChipTypeOp params c).Inv :=
  h.flush.setChip (State.flush_pending params s) c

/-- The configuration may change while the external input stays in its range (45_chip R259). -/
theorem State.Inv.setCfg (h : s.Inv) (c : Cfg) (hc : -134217728 ≤ c.extIn ∧ c.extIn < 134217728) :
    (s.setCfg c).Inv := by
  obtain ⟨hosc, henv, hshadow, hpending, hflt, hext, -⟩ := h
  exact ⟨hosc, henv, hshadow, hpending, hflt, hext, hc⟩

theorem State.Inv.extIn_bounds (h : s.Inv) : -134217728 ≤ s.cfg.extIn ∧ s.cfg.extIn < 134217728 := by
  obtain ⟨-, -, -, -, -, -, hcfg⟩ := h
  exact hcfg

theorem State.Inv.audioOutputOp (h : s.Inv) (b : Nat) : (s.audioOutputOp params b).Inv := by
  unfold State.audioOutputOp
  split
  · exact h.refuse _
  · refine h.orRaise fun t ht => ?_
    obtain ⟨x, -, hx⟩ := (bind_eq_ok _ _ _).1 ht
    cases hx
    exact h.setResult _

/-- One emulated cycle: each oscillator's own, with a sync reset perhaps, and each envelope generator's own (45_chip
R248). -/
theorem State.Inv.cycle (h : s.Inv) : (s.cycle params).Inv := by
  obtain ⟨hosc, henv, hrest⟩ := h
  refine ⟨fun v => ?_, fun v => ?_, hrest⟩
  · have ho := (hosc v).cycle params s.chip
    rcases State.cycle_osc params s v with hv | hv <;> rw [hv]
    · exact ho
    · exact ho.clearAcc
  · rw [State.cycle, State.setVoices_env, Triple.get_map]
    exact (henv v).cycle

theorem State.Inv.iterate_cycle (h : s.Inv) (n : Nat) : ((State.cycle params)^[n] s).Inv := by
  induction n with
  | zero => exact h
  | succ n ih =>
    rw [Function.iterate_succ_apply']
    exact ih.cycle

/-- New filter states in range may be put in (60_exceptions R283). -/
theorem State.Inv.setFilters (h : s.Inv) {f : Filter} {e : ExtFilter} (hf : f.fitsAll params)
    (he : e.fitsAll params) : State.Inv { s with flt := f, ext := e } := by
  obtain ⟨hosc, henv, hshadow, hpending, -, -, hcfg⟩ := h
  exact ⟨hosc, henv, hshadow, hpending, hf, he, hcfg⟩

theorem State.Inv.advanceCore (h : s.Inv) {n : Nat} (ht : s.advanceCore params n = .ok t) : t.Inv := by
  have ⟨_, _, _, _, hflt, hext, _⟩ := h
  obtain ⟨_, _, _, _, _, _, -, -, -, hf, -, he, rfl⟩ := State.advanceCore_cases ht
  exact (h.iterate_cycle n).setFilters (filterAdvance_fits hflt hf) (extAdvance_fits hext he)

theorem State.Inv.advanceOp (h : s.Inv) (n : Nat) : (s.advanceOp params n).Inv := by
  refine h.orRaise fun t ht => ?_
  rcases State.advanceChecked_cases ht with ⟨-, rfl⟩ | ⟨-, -, hc⟩ | ⟨w, s1, -, h1, h2⟩
  · exact h
  · exact h.advanceCore hc
  · have hw := ((h.advanceCore h1).apply w.addr w.data).setPending none (fun _ => rfl)
    rcases h2 with ⟨-, rfl⟩ | ⟨-, hc⟩
    · exact hw
    · exact hw.advanceCore hc

/-- Every operation keeps the invariant, if the level of a SET_EXT_INPUT fits its field. -/
theorem Effect.inv {i : Instr} (he : Effect s i t) (h : s.Inv)
    (hx : ∀ x, i = .setExtInput x → -134217728 ≤ x ∧ x < 134217728) : t.Inv := by
  cases he with
  | write _ a d => exact h.writeInRange a d
  | ignored => exact h
  | read => exact h.setResult _
  | refused _ a => exact h.refuse _
  | advance n => exact h.advanceOp n
  | reset => exact State.resetOp_inv h.extIn_bounds
  | setChipType c => exact h.setChipTypeOp c
  | setFilterEnable e => exact h.setCfg _ h.extIn_bounds
  | setExtEnable e => exact h.setCfg _ h.extIn_bounds
  | setExtInput x => exact h.setCfg _ (hx x rfl)
  | audioOutput b => exact h.audioOutputOp b

theorem exec_inv {i : Instr} (h : s.Inv) (hx : ∀ x, i = .setExtInput x → -134217728 ≤ x ∧ x < 134217728)
    (ht : exec i s = .next t) : t.Inv := by
  rcases exec_cases ht with ⟨-, rfl⟩ | ⟨-, he⟩
  · exact h
  · exact he.inv h hx

theorem refuseWord_inv {e : DecodeError} (h : s.Inv) (ht : refuseWord e s = .next t) : t.Inv := by
  rcases afterOp_cases ht with ⟨-, rfl⟩ | ⟨-, rfl⟩
  · exact h
  · exact h.refuse _

end Block

/-! ### The level of a decoded SET_EXT_INPUT -/

theorem ifReservedZero_eq_ok {w : Word} {z : Bool} {i j : Instr} (h : ifReservedZero w z i = .ok j) : j = i := by
  unfold ifReservedZero at h
  split at h
  · cases h
    rfl
  · cases h

theorem decodeWrite_ne_setExtInput (a d : Byte) (x : Int) : Instr.setExtInput x ≠ decodeWrite a d := by
  unfold decodeWrite
  split
  case h_33 => split_ifs <;> simp
  all_goals simp

theorem decodeRead_ne_setExtInput (a : Byte) (x : Int) : Instr.setExtInput x ≠ decodeRead a := by
  unfold decodeRead
  split
  case h_33 => split_ifs <;> simp
  all_goals simp

/-- A word can only spell a level of 28 bits (30_encoding R87). -/
theorem decode_setExtInput_bounds {w : Word} {x : Int} (h : decode w = .ok (.setExtInput x)) :
    -134217728 ≤ x ∧ x < 134217728 := by
  unfold decode at h
  split at h
  case h_8 =>
    cases h
    have hlo := BitVec.le_toInt (wideField w)
    have hhi := BitVec.toInt_lt (x := wideField w)
    norm_num at hlo hhi
    exact ⟨hlo, hhi⟩
  case h_1 => exact absurd (ifReservedZero_eq_ok h) (decodeWrite_ne_setExtInput _ _ x)
  case h_2 => exact absurd (ifReservedZero_eq_ok h) (decodeRead_ne_setExtInput _ x)
  case h_3 => cases h
  case h_10 => cases h
  all_goals exact nomatch ifReservedZero_eq_ok h

/-! ### The obligations -/

/-- Settles O58: a step is idle, refuses its word, or runs the decoded operation, and each keeps the invariant. -/
theorem stepKeepsTheInvariant : Obligations.StepKeepsTheInvariant := by
  unfold Obligations.StepKeepsTheInvariant
  intro s t h ht
  unfold step at ht
  split at ht
  · cases ht
    exact h
  · split at ht
    · next hd => exact exec_inv h.takeWord (fun x hx => decode_setExtInput_bounds (hx ▸ hd)) ht
    · exact refuseWord_inv h.takeWord ht

/-- Settles O53: each reset value is the field's own of 10_state. -/
theorem resetRestoresResetValues : Obligations.ResetRestoresResetValues := by
  unfold Obligations.ResetRestoresResetValues
  intro s hlive o e f
  have he : Env.atReset params = e := by simp [Env.atReset, expInit_eq, e]
  refine ⟨s.resetOp params, afterOp_live _ _ hlive.1 hlive.2, fun v => by cases v <;> rfl, fun v => ?_, rfl, rfl,
    fun _ => rfl, rfl, rfl, rfl, rfl, rfl, rfl, rfl, rfl, rfl⟩
  rw [← he]
  cases v <;> rfl

/-- What the statement about the setters says of an operation that keeps configuration and chip type. -/
theorem setterFrame_of_kept {s t : State} (hcfg : t.cfg = s.cfg) (hchip : t.chip = s.chip) {a b c d : Prop} :
    (a → t.cfg.filterEnabled = s.cfg.filterEnabled) ∧ (b → t.cfg.extEnabled = s.cfg.extEnabled) ∧
      (c → t.cfg.extIn = s.cfg.extIn) ∧ (d → t.chip = s.chip) := by
  rw [hcfg, hchip]
  exact ⟨fun _ => rfl, fun _ => rfl, fun _ => rfl, fun _ => rfl⟩

/-- Settles O56: by the shared operation an instruction calls, of which only the setters touch the two fields. -/
theorem configurationChangesOnlyBySetters : Obligations.ConfigurationChangesOnlyBySetters := by
  unfold Obligations.ConfigurationChangesOnlyBySetters
  intro i s t ht
  rcases exec_cases ht with ⟨-, rfl⟩ | ⟨hlive, he⟩
  · exact setterFrame_of_kept rfl rfl
  cases he with
  | write _ a d =>
    obtain ⟨-, -, -, -, -, hcfg, hchip⟩ := State.writeInRange_frame params s a d
    exact setterFrame_of_kept hcfg hchip
  | ignored => exact setterFrame_of_kept rfl rfl
  | read => exact setterFrame_of_kept rfl rfl
  | refused _ a =>
    obtain ⟨-, -, hcfg, hchip⟩ := State.refuse_frame s (.readOutOfRange a.toNat)
    exact setterFrame_of_kept hcfg hchip
  | advance n =>
    obtain ⟨hchip, hcfg⟩ := State.advanceOp_frame params n s hlive.1
    exact setterFrame_of_kept hcfg hchip
  | reset => exact setterFrame_of_kept rfl rfl
  | setChipType c =>
    obtain ⟨-, -, -, -, -, hcfg, -⟩ := State.flush_frame params s
    have hkept : (s.setChipTypeOp params c).cfg = s.cfg := hcfg
    rw [hkept]
    exact ⟨fun _ => rfl, fun _ => rfl, fun _ => rfl, fun hne => absurd rfl (hne c)⟩
  | setFilterEnable b => exact ⟨fun hne => absurd rfl (hne b), fun _ => rfl, fun _ => rfl, fun _ => rfl⟩
  | setExtEnable b => exact ⟨fun _ => rfl, fun hne => absurd rfl (hne b), fun _ => rfl, fun _ => rfl⟩
  | setExtInput x => exact ⟨fun _ => rfl, fun _ => rfl, fun hne => absurd rfl (hne x), fun _ => rfl⟩
  | audioOutput b =>
    obtain ⟨-, -, hcfg, hchip⟩ := State.audioOutputOp_frame params s b
    exact setterFrame_of_kept hcfg hchip

/-- Settles O59: the power-up state is the reset of itself, and its external input is 0. -/
theorem resetStateMeetsTheInvariant : Obligations.ResetStateMeetsTheInvariant := by
  unfold Obligations.ResetStateMeetsTheInvariant
  have h : ((State.powerUp params).resetOp params).Inv := State.resetOp_inv (by decide)
  rwa [State.resetOp_powerUp] at h

/-- Settles O60: RESET of the live power-up state gives it its reset values again. -/
theorem powerUpConfiguration : Obligations.PowerUpConfiguration := by
  unfold Obligations.PowerUpConfiguration
  refine ⟨rfl, rfl, State.reset_live, rfl, ?_⟩
  have hexec : exec .reset State.reset = .next (State.reset.resetOp params) :=
    afterOp_live _ _ State.reset_live.1 State.reset_live.2
  rw [hexec, State.reset, State.resetOp_powerUp]

end Sys2Proof.Machine

/-!
PROOFS. The statements about the host's word stream and the MOS8580 write pipeline: a step runs the decoded operation
of its word, and a held write waits for the next write, the next cycle or a change of the chip type.
-/

namespace Sys2Proof.Machine

section Pipeline

variable {s s1 t : State} {w : HeldWrite} {n : Nat}

/-! ### The instructions of a live block -/

/-- SET_CHIP_TYPE flushes the pipeline, then switches (45_chip R251). -/
theorem exec_setChipType_live (hs : s.live) (c : Chip) :
    exec (.setChipType c) s = .next ((s.flush params).setChip c) :=
  afterOp_live s _ hs.1 hs.2

/-- ADVANCE without overflow answers what its cycles give (45_chip R249). -/
theorem exec_advance_of_ok (hs : s.live) (h : s.advanceChecked params n = .ok t) :
    exec (.advance n) s = .next t := by
  have hop : s.advanceOp params n = t := by rw [State.advanceOp, h, State.orRaise_ok]
  rw [← hop]
  exact afterOp_live s _ hs.1 hs.2

/-! ### ADVANCE with a held write -/

/-- One cycle, and the write takes effect after it (20_memory R66). -/
theorem State.advanceChecked_held_one {P : Params} (hp : s.pending = some w) (h1 : s.advanceCore P 1 = .ok s1) :
    s.advanceChecked P 1 = .ok ((s1.apply P w.addr w.data).setPending none) := by
  simp only [State.advanceChecked, hp, h1, ok_bind, if_true, Nat.one_ne_zero, if_false]
  rfl

/-- The cycles after the first are an advance of their own, from the block with the write applied (20_memory R66). -/
theorem State.advanceChecked_held_succ {P : Params} (hp : s.pending = some w) (h1 : s.advanceCore P 1 = .ok s1)
    (hn : 1 ≤ n) :
    s.advanceChecked P (n + 1) = ((s1.apply P w.addr w.data).setPending none).advanceCore P n := by
  have hrest : n + 1 ≠ 1 := by omega
  simp only [State.advanceChecked, hp, h1, ok_bind, hrest, Nat.succ_ne_zero, if_false, Nat.add_sub_cancel]

end Pipeline

/-! ### The obligations -/

/-- Settles O16: a write on MOS8580 flushes the pipeline and is held itself. -/
theorem writeOnMos8580IsHeld : Obligations.WriteOnMos8580IsHeld := by
  unfold Obligations.WriteOnMos8580IsHeld
  intro a d s hs hc
  rw [exec_writeAt_mos8580 a d s hs hc, State.issue]
  refine ⟨fun hp => ?_, fun w hp => ?_⟩
  · rw [State.flush_none params s hp]
    rfl
  · rw [State.flush_some params s w hp]
    rfl

/-- Settles O23: the first cycle, the write and the cycles that remain, one after the other. -/
theorem heldWriteTakesEffectAfterOneCycle : Obligations.HeldWriteTakesEffectAfterOneCycle := by
  unfold Obligations.HeldWriteTakesEffectAfterOneCycle
  intro s s1 w hs hp h1 s2
  refine ⟨exec_advance_of_ok hs (State.advanceChecked_held_one hp h1), fun n t hn ht => ?_⟩
  exact exec_advance_of_ok hs ((State.advanceChecked_held_succ hp h1 hn).trans ht)

/-- Settles O54: the flush still sees the old chip type, and leaves the pipeline empty. -/
theorem setChipTypeFlushesThenSwitches : Obligations.SetChipTypeFlushesThenSwitches := by
  unfold Obligations.SetChipTypeFlushesThenSwitches
  intro c s hs
  rw [exec_setChipType_live hs c]
  refine ⟨fun hp => ?_, fun w hp => ?_⟩
  · rw [State.flush_none params s hp]
    rfl
  · rw [State.flush_some params s w hp]
    rfl

/-- Settles O5: of a waiting word that decodes, `step` takes the word and runs its instruction. -/
theorem stepRunsTheDecodedOperation : Obligations.StepRunsTheDecodedOperation := by
  unfold Obligations.StepRunsTheDecodedOperation
  intro s w ws i hstream hdecode
  have htaken : s.takeWord = { s with stream := ws, pc := s.pc + 1 } := by
    rw [State.takeWord, hstream, List.tail_cons]
  simp only [step, hstream, hdecode, htaken]

end Sys2Proof.Machine

/-!
PROOFS. The statements about the encoding (30_encoding R82..R96): `Spells` says which word spells which instruction,
decoder and encoder are each shown to agree with it, and the words that spell none are named and refused.
-/

namespace Sys2Proof

/-! ### The parts of a concatenation -/

section Parts

variable {p q r s : Nat} {x : BitVec p} {y : BitVec q} {z : BitVec r} {t : BitVec s}

theorem extractLsb'_first_of_three : (x ++ y ++ z).extractLsb' (q + r) p = x := by
  simp [BitVec.extractLsb'_append_eq_of_le]

theorem extractLsb'_middle : (x ++ y ++ z).extractLsb' r q = y := by
  simp [BitVec.extractLsb'_append_eq_of_le, BitVec.extractLsb'_append_eq_right]

theorem extractLsb'_first_of_four : (x ++ y ++ z ++ t).extractLsb' (q + r + s) p = x := by
  simp [BitVec.extractLsb'_append_eq_of_le]

theorem extractLsb'_second_of_four : (x ++ y ++ z ++ t).extractLsb' (r + s) q = y := by
  simp [BitVec.extractLsb'_append_eq_of_le, BitVec.extractLsb'_append_eq_right]

/-- A word is the concatenation of three fields that cover it. -/
theorem append_three_parts (w : BitVec (p + q + r)) :
    w.extractLsb' (q + r) p ++ w.extractLsb' r q ++ w.extractLsb' 0 r = w := by
  rw [BitVec.extractLsb'_append_extractLsb'_eq_extractLsb' (Nat.add_comm q r), BitVec.extractLsb'_append_extractLsb']

/-- A word is the concatenation of four fields that cover it. -/
theorem append_four_parts (w : BitVec (p + q + r + s)) :
    w.extractLsb' (q + r + s) p ++ w.extractLsb' (r + s) q ++ w.extractLsb' s r ++ w.extractLsb' 0 s = w := by
  rw [BitVec.extractLsb'_append_extractLsb'_eq_extractLsb' (by omega), append_three_parts]

end Parts

/-! ### The fields of an encoded word (30_encoding R82) -/

/-- An AUDIO_OUTPUT word (R87). -/
def encodeWidth (n : BitVec 6) : Word := 0x8#4 ++ 0#22 ++ n

theorem encode_audioOutput (b : Nat) : encode (.audioOutput b) = encodeWidth (BitVec.ofNat 6 b) := rfl

section Fields

variable (k : BitVec 4) (a d : Byte) (x : BitVec 28) (b : Bool) (n : BitVec 6)

@[simp] theorem kindField_encodeWrite : kindField (encodeWrite a d) = 0 :=
  congrArg BitVec.toNat extractLsb'_first_of_four

@[simp] theorem reserved_encodeWrite : (encodeWrite a d).extractLsb' 16 12 = 0 := extractLsb'_second_of_four

@[simp] theorem addrField_encodeWrite : addrField (encodeWrite a d) = a := extractLsb'_middle

@[simp] theorem dataField_encodeWrite : dataField (encodeWrite a d) = d := BitVec.extractLsb'_append_eq_right

@[simp] theorem kindField_encodeRead : kindField (encodeRead a) = 1 :=
  congrArg BitVec.toNat extractLsb'_first_of_four

@[simp] theorem reserved_encodeRead : (encodeRead a).extractLsb' 16 12 = 0 := extractLsb'_second_of_four

@[simp] theorem addrField_encodeRead : addrField (encodeRead a) = a := extractLsb'_middle

@[simp] theorem dataField_encodeRead : dataField (encodeRead a) = 0 := BitVec.extractLsb'_append_eq_right

@[simp] theorem kindField_encodeWide : kindField (encodeWide k x) = k.toNat :=
  congrArg BitVec.toNat BitVec.extractLsb'_append_eq_left

@[simp] theorem wideField_encodeWide : wideField (encodeWide k x) = x := BitVec.extractLsb'_append_eq_right

@[simp] theorem kindField_encodeBit : kindField (encodeBit k b) = k.toNat :=
  congrArg BitVec.toNat extractLsb'_first_of_three

@[simp] theorem reserved_encodeBit : (encodeBit k b).extractLsb' 1 27 = 0 := extractLsb'_middle

@[simp] theorem bit_encodeBit : (encodeBit k b)[0] = b := (BitVec.getElem_append (by decide)).trans (by simp)

@[simp] theorem kindField_encodeWidth : kindField (encodeWidth n) = 8 :=
  congrArg BitVec.toNat extractLsb'_first_of_three

@[simp] theorem reserved_encodeWidth : (encodeWidth n).extractLsb' 6 22 = 0 := extractLsb'_middle

@[simp] theorem width_encodeWidth : (encodeWidth n).extractLsb' 0 6 = n := BitVec.extractLsb'_append_eq_right

end Fields

/-! ### A word of its KIND with its reserved bits zero is an encoded word -/

section Forms

variable {w : Word} (k : BitVec 4)

theorem kind_eq_of_kindField (h : kindField w = k.toNat) : w.extractLsb' 28 4 = k := BitVec.eq_of_toNat_eq h

theorem encodeWrite_of_fields (hk : kindField w = 0) (hr : w.extractLsb' 16 12 = 0#12) :
    encodeWrite (addrField w) (dataField w) = w := by
  rw [encodeWrite, ← kind_eq_of_kindField 0x0#4 hk, ← hr]
  exact append_four_parts (p := 4) (q := 12) (r := 8) (s := 8) w

theorem encodeRead_of_fields (hk : kindField w = 1) (hr : w.extractLsb' 16 12 = 0#12) (hd : dataField w = 0#8) :
    encodeRead (addrField w) = w := by
  rw [encodeRead, ← kind_eq_of_kindField 0x1#4 hk, ← hr, ← hd]
  exact append_four_parts (p := 4) (q := 12) (r := 8) (s := 8) w

theorem encodeWide_of_fields (hk : kindField w = k.toNat) : encodeWide k (wideField w) = w := by
  rw [encodeWide, ← kind_eq_of_kindField k hk]
  exact BitVec.extractLsb'_append_extractLsb'

theorem encodeBit_of_fields (hk : kindField w = k.toNat) (hr : w.extractLsb' 1 27 = 0#27) :
    encodeBit k (w.getLsbD 0) = w := by
  have hbit : BitVec.ofBool (w.getLsbD 0) = w.extractLsb' 0 1 := by
    ext i hi
    obtain rfl : i = 0 := by omega
    simp
  rw [encodeBit, hbit, ← kind_eq_of_kindField k hk, ← hr]
  exact append_three_parts (p := 4) (q := 27) (r := 1) w

theorem encodeWidth_of_fields (hk : kindField w = 8) (hr : w.extractLsb' 6 22 = 0#22) :
    encodeWidth (w.extractLsb' 0 6) = w := by
  rw [encodeWidth, ← kind_eq_of_kindField 0x8#4 hk, ← hr]
  exact append_three_parts (p := 4) (q := 22) (r := 6) w

end Forms

/-! ### The rows of an address (30_encoding R91) -/

theorem decodeWrite_outOfRange {a : Byte} (h : 0x20 ≤ a.toNat) (d : Byte) :
    decodeWrite a d =
      if a.toNat < 0x40 then .writeOutOfRange20 a d
      else if a.toNat < 0x80 then .writeOutOfRange40 a d
      else .writeOutOfRange80 a d := by
  unfold decodeWrite
  split
  case h_33 => rfl
  all_goals omega

theorem decodeRead_outOfRange {a : Byte} (h : 0x20 ≤ a.toNat) :
    decodeRead a =
      if a.toNat < 0x40 then .readOutOfRange20 a
      else if a.toNat < 0x80 then .readOutOfRange40 a
      else .readOutOfRange80 a := by
  unfold decodeRead
  split
  case h_33 => rfl
  all_goals omega

theorem decodeWrite_range20 {a : Byte} (h : 0x20 ≤ a.toNat ∧ a.toNat ≤ 0x3F) (d : Byte) :
    decodeWrite a d = .writeOutOfRange20 a d := by
  rw [decodeWrite_outOfRange h.1, if_pos (by omega)]

theorem decodeWrite_range40 {a : Byte} (h : 0x40 ≤ a.toNat ∧ a.toNat ≤ 0x7F) (d : Byte) :
    decodeWrite a d = .writeOutOfRange40 a d := by
  rw [decodeWrite_outOfRange (by omega), if_neg (by omega), if_pos (by omega)]

theorem decodeWrite_range80 {a : Byte} (h : 0x80 ≤ a.toNat ∧ a.toNat ≤ 0xFF) (d : Byte) :
    decodeWrite a d = .writeOutOfRange80 a d := by
  rw [decodeWrite_outOfRange (by omega), if_neg (by omega), if_neg (by omega)]

theorem decodeRead_range20 {a : Byte} (h : 0x20 ≤ a.toNat ∧ a.toNat ≤ 0x3F) :
    decodeRead a = .readOutOfRange20 a := by
  rw [decodeRead_outOfRange h.1, if_pos (by omega)]

theorem decodeRead_range40 {a : Byte} (h : 0x40 ≤ a.toNat ∧ a.toNat ≤ 0x7F) :
    decodeRead a = .readOutOfRange40 a := by
  rw [decodeRead_outOfRange (by omega), if_neg (by omega), if_pos (by omega)]

theorem decodeRead_range80 {a : Byte} (h : 0x80 ≤ a.toNat ∧ a.toNat ≤ 0xFF) :
    decodeRead a = .readOutOfRange80 a := by
  rw [decodeRead_outOfRange (by omega), if_neg (by omega), if_neg (by omega)]

/-- A WRITE of any address is one row's, whose word has that address and value. -/
theorem encode_decodeWrite (a d : Byte) :
    (decodeWrite a d).wellFormed = true ∧ encode (decodeWrite a d) = encodeWrite a d := by
  by_cases h : 0x20 ≤ a.toNat
  · rw [decodeWrite_outOfRange h]
    split_ifs <;> simp [Instr.wellFormed, encode] <;> omega
  · obtain ⟨⟨n, hn⟩⟩ := a
    change ¬ 0x20 ≤ n at h
    interval_cases n <;> exact ⟨rfl, rfl⟩

/-- A READ of any address is one row's, whose word has that address. -/
theorem encode_decodeRead (a : Byte) :
    (decodeRead a).wellFormed = true ∧ encode (decodeRead a) = encodeRead a := by
  by_cases h : 0x20 ≤ a.toNat
  · rw [decodeRead_outOfRange h]
    split_ifs <;> simp [Instr.wellFormed, encode] <;> omega
  · obtain ⟨⟨n, hn⟩⟩ := a
    change ¬ 0x20 ≤ n at h
    interval_cases n <;> exact ⟨rfl, rfl⟩

/-! ### The reserved-bits check -/

theorem ifReservedZero_eq_ok_iff {w : Word} {zero : Bool} {i j : Instr} :
    ifReservedZero w zero i = .ok j ↔ zero = true ∧ j = i := by
  cases zero <;> simp [ifReservedZero, eq_comm]

/-- A reserved-bits check names its word when it fails, and gives the instruction when it does not. -/
theorem ifReservedZero_named {w : Word} {zero : Bool} {i : Instr} {reserved : Prop} (h : zero = false ↔ reserved) :
    (ifReservedZero w zero i = .error (.reservedBits w) ↔ reserved) ∧
      (¬ reserved → ∃ j, ifReservedZero w zero i = .ok j) := by
  rw [← h]
  cases zero <;> simp [ifReservedZero]

/-! ### Which word spells which instruction -/

/-- The word spells the instruction: one case for each KIND 0..8 (30_encoding R83..R87). -/
inductive Spells : Word → Instr → Prop where
  | write (a d : Byte) : Spells (encodeWrite a d) (decodeWrite a d)
  | read (a : Byte) : Spells (encodeRead a) (decodeRead a)
  | advance (x : BitVec 28) : Spells (encodeWide 0x2 x) (.advance x.toNat)
  | reset : Spells (encodeWide 0x3 0) .reset
  | setChipType (b : Bool) : Spells (encodeBit 0x4 b) (.setChipType (chipOfBit b))
  | setFilterEnable (b : Bool) : Spells (encodeBit 0x5 b) (.setFilterEnable b)
  | setExtEnable (b : Bool) : Spells (encodeBit 0x6 b) (.setExtEnable b)
  | setExtInput (x : BitVec 28) : Spells (encodeWide 0x7 x) (.setExtInput x.toInt)
  | audioOutput (n : BitVec 6) : Spells (encodeWidth n) (.audioOutput n.toNat)

/-- Spelling respects equal words and equal instructions. -/
theorem Spells.congr {w w' : Word} {i i' : Instr} (h : Spells w i) (hw : w = w') (hi : i = i') : Spells w' i' :=
  hw ▸ hi ▸ h

/-- A word decodes to what it spells: the fields of an encoded word are the ones it was made of. -/
theorem Spells.decode_eq {w : Word} {i : Instr} (h : Spells w i) : decode w = .ok i := by
  cases h <;> simp [decode, ifReservedZero]

/-- What a word spells is well formed, and the encoder gives the word back. -/
theorem Spells.wellFormed_and_encode {w : Word} {i : Instr} (h : Spells w i) :
    i.wellFormed = true ∧ encode i = w := by
  cases h with
  | write a d => exact encode_decodeWrite a d
  | read a => exact encode_decodeRead a
  | advance x => simp [Instr.wellFormed, encode, x.isLt]
  | reset => exact ⟨rfl, rfl⟩
  | setChipType b => cases b <;> exact ⟨rfl, rfl⟩
  | setFilterEnable | setExtEnable => exact ⟨rfl, rfl⟩
  | setExtInput x =>
    have hlo := BitVec.le_toInt x
    have hhi := BitVec.toInt_lt (x := x)
    norm_num at hlo hhi
    simp [Instr.wellFormed, encode, hlo, hhi]
  | audioOutput n => simp [Instr.wellFormed, encode_audioOutput, n.isLt]

/-- A word that decodes spells its instruction, KIND by KIND. -/
theorem spells_of_decode {w : Word} {i : Instr} (h : decode w = .ok i) : Spells w i := by
  unfold decode at h
  split at h
  case h_1 hk =>
    obtain ⟨hr, rfl⟩ := ifReservedZero_eq_ok_iff.1 h
    exact (Spells.write (addrField w) (dataField w)).congr (encodeWrite_of_fields hk (eq_of_beq hr)) rfl
  case h_2 hk =>
    obtain ⟨hz, rfl⟩ := ifReservedZero_eq_ok_iff.1 h
    obtain ⟨hr, hd⟩ := Bool.and_eq_true_iff.1 hz
    exact (Spells.read (addrField w)).congr (encodeRead_of_fields hk (eq_of_beq hr) (eq_of_beq hd)) rfl
  case h_3 hk =>
    cases h
    exact (Spells.advance (wideField w)).congr (encodeWide_of_fields 0x2 hk) rfl
  case h_4 hk =>
    obtain ⟨hx, rfl⟩ := ifReservedZero_eq_ok_iff.1 h
    have hw := encodeWide_of_fields 0x3 hk
    rw [eq_of_beq hx] at hw
    exact Spells.reset.congr hw rfl
  case h_5 hk =>
    obtain ⟨hr, rfl⟩ := ifReservedZero_eq_ok_iff.1 h
    exact (Spells.setChipType (w.getLsbD 0)).congr (encodeBit_of_fields 0x4 hk (eq_of_beq hr)) rfl
  case h_6 hk =>
    obtain ⟨hr, rfl⟩ := ifReservedZero_eq_ok_iff.1 h
    exact (Spells.setFilterEnable (w.getLsbD 0)).congr (encodeBit_of_fields 0x5 hk (eq_of_beq hr)) rfl
  case h_7 hk =>
    obtain ⟨hr, rfl⟩ := ifReservedZero_eq_ok_iff.1 h
    exact (Spells.setExtEnable (w.getLsbD 0)).congr (encodeBit_of_fields 0x6 hk (eq_of_beq hr)) rfl
  case h_8 hk =>
    cases h
    exact (Spells.setExtInput (wideField w)).congr (encodeWide_of_fields 0x7 hk) rfl
  case h_9 hk =>
    obtain ⟨hr, rfl⟩ := ifReservedZero_eq_ok_iff.1 h
    exact (Spells.audioOutput (w.extractLsb' 0 6)).congr (encodeWidth_of_fields hk (eq_of_beq hr)) rfl
  case h_10 => cases h

/-- The word of a well-formed instruction spells it. -/
theorem spells_encode {i : Instr} (h : i.wellFormed = true) : Spells (encode i) i := by
  cases i with
  | writeOutOfRange20 a d =>
    exact (Spells.write a d).congr rfl (decodeWrite_range20 (by simpa [Instr.wellFormed] using h) d)
  | writeOutOfRange40 a d =>
    exact (Spells.write a d).congr rfl (decodeWrite_range40 (by simpa [Instr.wellFormed] using h) d)
  | writeOutOfRange80 a d =>
    exact (Spells.write a d).congr rfl (decodeWrite_range80 (by simpa [Instr.wellFormed] using h) d)
  | readOutOfRange20 a => exact (Spells.read a).congr rfl (decodeRead_range20 (by simpa [Instr.wellFormed] using h))
  | readOutOfRange40 a => exact (Spells.read a).congr rfl (decodeRead_range40 (by simpa [Instr.wellFormed] using h))
  | readOutOfRange80 a => exact (Spells.read a).congr rfl (decodeRead_range80 (by simpa [Instr.wellFormed] using h))
  | advance n =>
    have hn : (BitVec.ofNat 28 n).toNat = n := Nat.mod_eq_of_lt (by simpa [Instr.wellFormed] using h)
    exact (Spells.advance _).congr rfl (congrArg Instr.advance hn)
  | reset => exact .reset
  | setChipType c => cases c <;> exact .setChipType _
  | setFilterEnable e => exact .setFilterEnable e
  | setExtEnable e => exact .setExtEnable e
  | setExtInput x =>
    have hx : (BitVec.ofInt 28 x).toInt = x := by
      simp only [Instr.wellFormed, Bool.and_eq_true, decide_eq_true_eq] at h
      rw [BitVec.toInt_ofInt_eq_self (by decide) h.1 h.2]
    exact (Spells.setExtInput _).congr rfl (congrArg Instr.setExtInput hx)
  | audioOutput b =>
    have hb : (BitVec.ofNat 6 b).toNat = b := Nat.mod_eq_of_lt (by simpa [Instr.wellFormed] using h)
    exact (Spells.audioOutput _).congr rfl (congrArg Instr.audioOutput hb)
  | writeV0FreqLo d | writeV0FreqHi d | writeV0PwLo d | writeV0PwHi d | writeV0Control d | writeV0Ad d | writeV0Sr d
  | writeV1FreqLo d | writeV1FreqHi d | writeV1PwLo d | writeV1PwHi d | writeV1Control d | writeV1Ad d | writeV1Sr d
  | writeV2FreqLo d | writeV2FreqHi d | writeV2PwLo d | writeV2PwHi d | writeV2Control d | writeV2Ad d | writeV2Sr d
  | writeFcLo d | writeFcHi d | writeResFilt d | writeModeVol d | writeUnmapped19 d | writeUnmapped1A d
  | writeUnmapped1B d | writeUnmapped1C d | writeUnmapped1D d | writeUnmapped1E d | writeUnmapped1F d =>
    exact .write _ d
  | _ => exact .read _

/-! ### The words that spell no instruction (30_encoding R89) -/

theorem decode_invalidKind {w : Word} (h : 9 ≤ kindField w) : decode w = .error (.invalidKind (kindField w)) := by
  unfold decode
  split
  case h_10 => rfl
  all_goals omega

/-! ### The obligations -/

/-- Settles O1: the word of a well-formed instruction spells it, and a word decodes to what it spells. -/
theorem decodeOfEncodeIsIdentity : Obligations.DecodeOfEncodeIsIdentity := by
  unfold Obligations.DecodeOfEncodeIsIdentity
  exact fun i h => (spells_encode h).decode_eq

/-- Settles O2: a word spells what it decodes to, and the encoder gives back the word that spells an instruction. -/
theorem decodedWordIsItsEncoding : Obligations.DecodedWordIsItsEncoding := by
  unfold Obligations.DecodedWordIsItsEncoding
  exact fun w i h => (spells_of_decode h).wellFormed_and_encode

/-- Settles O3, KIND by KIND: each KIND has one reserved-bits check, or none. -/
theorem invalidWordsAreNamed : Obligations.InvalidWordsAreNamed := by
  unfold Obligations.InvalidWordsAreNamed
  refine fun w => ⟨decode_invalidKind, fun hlt => ?_⟩
  unfold decode
  split
  case h_10 =>
    exfalso
    interval_cases kindField w <;> contradiction
  case h_3 hk => simp [hk]
  case h_8 hk => simp [hk]
  case h_2 hk => exact ifReservedZero_named (by simp [hk, dataField, imp_iff_not_or])
  all_goals
    next hk => exact ifReservedZero_named (by simp [hk, wideField])

/-- Settles O4: each of the sixteen words is decoded. -/
theorem specExampleWordsDecode : Obligations.SpecExampleWordsDecode := by
  unfold Obligations.SpecExampleWordsDecode
  decide

end Sys2Proof

namespace Sys2Proof.Machine

/-- A live block refuses an invalid word by its mark alone (30_encoding R89, 60_exceptions R284). -/
theorem refuseWord_live {s : State} (hs : s.live) (e : DecodeError) :
    refuseWord e s = .next { s with refused := some (refusalOf e) } := by
  obtain ⟨hfault, hrefused⟩ := hs
  rw [refuseWord, afterOp_live _ _ hfault hrefused, State.refuse_live _ _ hrefused]

/-- A live block takes a word that spells no operation from the stream, and refuses it. -/
theorem step_of_decode_error {s : State} {w : Word} {ws : List Word} {e : DecodeError} (hs : s.live)
    (hstream : s.stream = w :: ws) (he : decode w = .error e) :
    step s = .next { s with stream := ws, pc := s.pc + 1, refused := some (refusalOf e) } := by
  have hstep : step s = refuseWord e s.takeWord := by simp only [step, hstream, he]
  have hlive : s.takeWord.live := hs
  rw [hstep, refuseWord_live hlive, State.takeWord, hstream, List.tail_cons]

/-- Settles O7: both reasons are cases of one refusal. -/
theorem invalidWordIsRefused : Obligations.InvalidWordIsRefused := by
  unfold Obligations.InvalidWordIsRefused
  exact fun s w ws hs hstream =>
    ⟨fun k => step_of_decode_error hs hstream, fun x => step_of_decode_error hs hstream⟩

end Sys2Proof.Machine

/-!
PROOFS. The statements about the oscillator (40_oscillator): its register writes, one cycle field by field, what a run
of cycles does to its countdowns, noise register and accumulator, its waveforms and its output.
-/

namespace Sys2Proof.Machine

/-! ### Bits shifted and taken out one by one -/

section Bits

variable (sr : BitVec 23) (b : Bool)

/-- A one-bit shift as arithmetic: the register doubles and the new bit is added (40_oscillator R109). -/
theorem shiftIn_eq_ofNat : sr.extractLsb' 0 22 ++ BitVec.ofBool b = BitVec.ofNat 23 (sr.toNat * 2 + b.toNat) := by
  apply BitVec.eq_of_toNat_eq
  rw [BitVec.append_ofBool, BitVec.toNat_concat, BitVec.extractLsb'_toNat, BitVec.toNat_ofNat, Nat.shiftRight_zero]
  have hb := b.toNat_le
  omega

/-- A one-bit shift as word operations (40_oscillator R122). -/
theorem shiftIn_eq_or :
    sr.extractLsb' 0 22 ++ BitVec.ofBool b = (sr <<< 1) ||| BitVec.setWidth 23 (BitVec.ofBool b) := by
  rw [← BitVec.setWidth_eq (sr.extractLsb' 0 22 ++ BitVec.ofBool b),
    BitVec.setWidth_append_eq_shiftLeft_setWidth_or]
  congr 1
  ext i hi
  cases i with
  | zero => simp
  | succ i => simp [show i < 22 by omega, BitVec.getLsbD_eq_getElem (show i < 23 by omega)]

theorem shiftNoise_eq_ofNat :
    shiftNoise sr = BitVec.ofNat 23 (sr.toNat * 2 + (sr.getLsbD 22 ^^ sr.getLsbD 17).toNat) :=
  shiftIn_eq_ofNat sr _

/-- The all-zero register is a fixed point of the shift (70_reset R315). -/
theorem shiftNoise_zero : shiftNoise 0 = 0 := rfl

theorem extractLsb'_one {w : Nat} (x : BitVec w) (i : Nat) : x.extractLsb' i 1 = BitVec.ofBool (x.getLsbD i) := by
  ext j hj
  obtain rfl : j = 0 := by omega
  simp

/-- Appending one bit taken out of a word appends that bit. -/
theorem append_extractLsb'_one {n w : Nat} (x : BitVec n) (y : BitVec w) (i : Nat) :
    x ++ y.extractLsb' i 1 = x.concat (y.getLsbD i) := by
  rw [extractLsb'_one, BitVec.append_ofBool]

end Bits

/-! ### The register writes of a voice -/

section Writes

variable {s t : State} {v : VoiceId} {r : VoiceReg} {d : Byte}

/-- A voice register's write stores the byte, then changes its voice (45_chip R241, R244). -/
theorem State.apply_voiceAddr (P : Params) (s : State) (v : VoiceId) (r : VoiceReg) (d : Byte) :
    s.apply P (voiceAddr v r) d =
      State.writeVoice P { s with shadow := s.shadow.write (7 * v.toNat + r.toNat) d, lastBus := d } v r d := by
  rw [State.apply, targetOf_voiceAddr, State.storeShadow, voiceAddr_toNat, State.dispatch]

/-- On MOS6581 a live block answers a voice register's write with its immediate effect (45_chip R240). -/
theorem exec_voiceWrite_of_apply (h : s.apply params (voiceAddr v r) d = t) (hs : s.live)
    (hc : s.chip = .mos6581) : exec (voiceWrite v r d) s = .next t := by
  rw [voiceWrite_eq, exec_writeAt_mos6581 _ _ _ hs hc, h]

/-- What the statements about two voice registers say, once the immediate effects are known. -/
theorem voiceWrites_of_apply {t' : State} {r' : VoiceReg} (h : s.apply params (voiceAddr v r) d = t)
    (h' : s.apply params (voiceAddr v r') d = t') :
    s.apply params (voiceAddr v r) d = t ∧ s.apply params (voiceAddr v r') d = t' ∧
      (s.live → s.chip = .mos6581 →
        exec (voiceWrite v r d) s = .next t ∧ exec (voiceWrite v r' d) s = .next t') :=
  ⟨h, h', fun hs hc => ⟨exec_voiceWrite_of_apply h hs hc, exec_voiceWrite_of_apply h' hs hc⟩⟩

end Writes

/-! ### The parts of a CONTROL write, field by field -/

/-- The test bit's edges: what each does to the three fields it may touch (40_oscillator R122). -/
theorem Osc.testEdge_eq (P : Params) (c : Chip) (o : Osc) (old new : Bool) :
    o.testEdge P c old new =
      { o with
        acc := if old = false ∧ new = true then 0 else o.acc
        sr := if old = false ∧ new = true then (if P.testEdgeSr = .clear then 0 else o.sr)
              else if old = true ∧ new = false then
                (if P.testFallShift then (o.sr <<< 1) ||| BitVec.setWidth 23 (BitVec.ofBool (!o.sr.getLsbD 17))
                 else o.sr)
              else o.sr
        srResetCnt := if old = false ∧ new = true then P.shiftResetCycles c
                      else if old = true ∧ new = false then 0 else o.srResetCnt } := by
  unfold Osc.testEdge
  simp only [risingEdge_eq_true, fallingEdge_eq_true, shiftIn_eq_or]
  split
  · cases P.testEdgeSr <;> rfl
  · split <;> rfl

/-- The floating output's entry and exit (40_oscillator R121). -/
theorem Osc.floatEntry_eq (P : Params) (c : Chip) (o : Osc) (oldSel newSel : BitVec 4) (out : BitVec 12) :
    o.floatEntry P c oldSel newSel out =
      { o with
        floatVal := if oldSel ≠ 0 ∧ newSel = 0 then out else o.floatVal
        floatCnt := if oldSel ≠ 0 ∧ newSel = 0 then P.floatTtl c else if newSel ≠ 0 then 0 else o.floatCnt } := by
  unfold Osc.floatEntry
  split
  · rfl
  · split <;> rfl

/-- The gate bit's edges arm the pipeline (41_envelope R147). -/
theorem Env.gateWrite_eq (P : Params) (e : Env) (g : Bool) :
    e.gateWrite P g =
      { e with
        gate := g
        pipeNext := if e.gate = false ∧ g = true then .attack
                    else if e.gate = true ∧ g = false then .release else e.pipeNext
        pipeCnt := if e.gate = false ∧ g = true then P.gateOnDelay
                   else if e.gate = true ∧ g = false then P.gateOffDelay else e.pipeCnt } := by
  unfold Env.gateWrite
  simp only [risingEdge_eq_true, fallingEdge_eq_true]
  split
  · rfl
  · split <;> rfl

/-! ### One cycle of an oscillator, part by part -/

section Cycle

variable (P : Params) (c : Chip) (o : Osc)

theorem Osc.floatDecay_eq :
    o.floatDecay =
      { o with
        floatCnt := if o.sel = 0 then o.floatCnt - 1 else o.floatCnt
        floatVal := if o.sel = 0 ∧ o.floatCnt = 1 then 0 else o.floatVal } := by
  unfold Osc.floatDecay
  split
  · next h => simp [h.1]
  · next h =>
    have h0 : o.sel = 0 → o.floatCnt = 0 := not_and_not_right.1 h
    have hcnt : (if o.sel = 0 then o.floatCnt - 1 else o.floatCnt) = o.floatCnt := by
      split
      · next hsel => rw [h0 hsel]
      · rfl
    rw [hcnt, if_neg (fun hexp => absurd (h0 hexp.1) (by omega))]

/-- One BITFADE step: each 1 spreads to the bit below it, and a 1 enters at the top (40_oscillator R110). -/
def bitFade (sr : BitVec 23) : BitVec 23 := sr ||| (sr >>> 1) ||| 0x400000

theorem Osc.shiftResetCountdown_of_jump {P : Params} (hm : P.srResetMode = .jump) :
    o.shiftResetCountdown P c =
      { o with sr := if o.srResetCnt = 1 then 0x7FFFFF else o.sr, srResetCnt := o.srResetCnt - 1 } := by
  unfold Osc.shiftResetCountdown
  split
  · next h0 => rw [if_neg (by omega), Nat.sub_eq_zero_of_le (by omega), ← h0]
  · split
    · next h1 => simp [hm, h1]
    · rfl

theorem Osc.shiftResetCountdown_of_bitfade {P : Params} (hm : P.srResetMode = .bitfade) :
    o.shiftResetCountdown P c =
      { o with
        sr := if o.srResetCnt = 1 then bitFade o.sr else o.sr
        srResetCnt := if o.srResetCnt = 1 ∧ bitFade o.sr ≠ 0x7FFFFF then P.shiftResetCycles c
                      else o.srResetCnt - 1 } := by
  unfold Osc.shiftResetCountdown
  split
  · next h0 => rw [if_neg (by omega), if_neg (by omega), Nat.sub_eq_zero_of_le (by omega), ← h0]
  · split
    · next h1 => simp [hm, h1, bitFade]
    · next h1 => simp [h1]

/-- The accumulator's add as arithmetic (40_oscillator R101). -/
theorem acc_add_freq_eq_ofNat (acc : BitVec 24) (freq : BitVec 16) :
    acc + freq.setWidth 24 = BitVec.ofNat 24 (acc.toNat + freq.toNat) := by
  simp [BitVec.ofNat_add]

theorem noiseEvent_eq (prev next : BitVec 24) :
    noiseEvent P prev next =
      if P.noiseClockEdge = .toggle then prev.getLsbD 19 != next.getLsbD 19
      else !prev.getLsbD 19 && next.getLsbD 19 := by
  unfold noiseEvent
  cases P.noiseClockEdge <;> rfl

variable {P c o}

theorem Osc.cycle_of_tested (ht : o.test = true) :
    o.cycle P c = (Osc.shiftResetCountdown P c { o with msbRising := false }).floatDecay := by
  rw [Osc.cycle, if_pos ht]

theorem Osc.cycle_of_untested (ht : o.test = false) : o.cycle P c = (o.count P).floatDecay := by
  rw [Osc.cycle, if_neg (by simp [ht])]

end Cycle

/-! ### A run of cycles of one oscillator -/

section Run

variable {P : Params} {c : Chip} {o : Osc}

/-- A field that a cycle keeps is kept by any number of cycles. -/
theorem Osc.iterate_cycle_kept {α : Type} {g : Osc → α} (hg : ∀ o, g (o.cycle P c) = g o) (n : Nat) (o : Osc) :
    g ((Osc.cycle P c)^[n] o) = g o := by
  induction n with
  | zero => rfl
  | succ n ih => rw [Function.iterate_succ_apply', hg, ih]

@[simp] theorem Osc.iterate_cycle_test (n : Nat) (o : Osc) : ((Osc.cycle P c)^[n] o).test = o.test :=
  Osc.iterate_cycle_kept (g := Osc.test) (Osc.cycle_test P c) n o

@[simp] theorem Osc.iterate_cycle_sel (n : Nat) (o : Osc) : ((Osc.cycle P c)^[n] o).sel = o.sel :=
  Osc.iterate_cycle_kept (g := Osc.sel) (Osc.cycle_sel P c) n o

@[simp] theorem Osc.iterate_cycle_freq (n : Nat) (o : Osc) : ((Osc.cycle P c)^[n] o).freq = o.freq :=
  Osc.iterate_cycle_kept (g := Osc.freq) (Osc.cycle_freq P c) n o

/-- A countdown that every cycle runs reaches 0 when its time has passed, and not before; the field it guards is
replaced as it expires, and stays replaced. -/
theorem Osc.iterate_cycle_countdown {α : Type} {cnt : Osc → Nat} {val : Osc → α} {z : α}
    (hstep : ∀ i, cnt (((Osc.cycle P c)^[i] o).cycle P c) = cnt ((Osc.cycle P c)^[i] o) - 1 ∧
      val (((Osc.cycle P c)^[i] o).cycle P c) =
        if cnt ((Osc.cycle P c)^[i] o) = 1 then z else val ((Osc.cycle P c)^[i] o))
    (harmed : 1 ≤ cnt o) (n : Nat) :
    cnt ((Osc.cycle P c)^[n] o) = cnt o - n ∧
      val ((Osc.cycle P c)^[n] o) = if cnt o ≤ n then z else val o := by
  induction n with
  | zero => exact ⟨rfl, (if_neg (by omega)).symm⟩
  | succ n ih =>
    obtain ⟨ihcnt, ihval⟩ := ih
    obtain ⟨hcnt, hval⟩ := hstep n
    rw [Function.iterate_succ_apply', hcnt, hval, ihcnt, ihval]
    refine ⟨by omega, ?_⟩
    rcases Nat.lt_trichotomy (cnt o) (n + 1) with hlt | heq | hgt
    · rw [if_neg (by omega), if_pos (by omega), if_pos (by omega)]
    · rw [if_pos (by omega), if_pos (by omega)]
    · rw [if_neg (by omega), if_neg (by omega), if_neg (by omega)]

/-- One cycle under the test bit with JUMP (40_oscillator R110). -/
theorem Osc.cycle_tested_jump (hm : P.srResetMode = .jump) (ht : o.test = true) :
    (o.cycle P c).srResetCnt = o.srResetCnt - 1 ∧
      (o.cycle P c).sr = if o.srResetCnt = 1 then 0x7FFFFF else o.sr := by
  simp [Osc.cycle_of_tested ht, Osc.shiftResetCountdown_of_jump c _ hm]

/-- One cycle with selector 0 (40_oscillator R117). -/
theorem Osc.cycle_floating (hs : o.sel = 0) :
    (o.cycle P c).floatCnt = o.floatCnt - 1 ∧
      (o.cycle P c).floatVal = if o.floatCnt = 1 then 0 else o.floatVal := by
  by_cases ht : o.test = true
  · simp [Osc.cycle_of_tested ht, Osc.floatDecay_eq, hs]
  · simp [Osc.cycle_of_untested (Bool.eq_false_iff.2 ht), Osc.floatDecay_eq, Osc.count, hs]

/-- One cycle with the test bit clear leaves a zero noise register zero (40_oscillator R109). -/
theorem Osc.cycle_sr_zero (ht : o.test = false) (hz : o.sr = 0) : (o.cycle P c).sr = 0 := by
  rw [Osc.cycle_of_untested ht, Osc.floatDecay_sr, Osc.count, hz, shiftNoise_zero, ite_self]

/-- The accumulator of an untested oscillator that runs by itself (40_oscillator R103). -/
theorem Osc.iterate_cycle_acc (ht : o.test = false) (n : Nat) :
    ((Osc.cycle P c)^[n] o).acc.toNat = (o.acc.toNat + n * o.freq.toNat) % 2 ^ 24 := by
  induction n with
  | zero => simp [Nat.mod_eq_of_lt o.acc.isLt]
  | succ n ih =>
    obtain ⟨hacc, -⟩ := Osc.cycle_untested P c ((Osc.cycle P c)^[n] o) (by simpa using ht)
    rw [Function.iterate_succ_apply', hacc, acc_add_freq_eq_ofNat, BitVec.toNat_ofNat, ih, Osc.iterate_cycle_freq,
      Nat.mod_add_mod, Nat.succ_mul, Nat.add_assoc]

end Run

/-! ### An oscillator in the block -/

section Block

variable {P : Params} {s : State} {v : VoiceId}

/-- A voice that sync does not reset runs its own cycle (44_voice_sync R224). -/
theorem State.cycle_osc_of_not_synced (h : doSync P (s.osc.map (Osc.cycle P s.chip)) v = false) :
    (s.cycle P).osc.get v = (s.osc.get v).cycle P s.chip := by
  rw [State.cycle, State.setVoices_osc, syncStep_get, syncedOsc, h, Triple.get_map, if_neg Bool.false_ne_true]

/-- A voice that sync resets in no cycle runs by itself. -/
theorem State.iterate_cycle_osc_of_not_synced {n : Nat}
    (h : ∀ k, k < n → doSync P (((State.cycle P)^[k] s).osc.map (Osc.cycle P s.chip)) v = false) :
    ((State.cycle P)^[n] s).osc.get v = (Osc.cycle P s.chip)^[n] (s.osc.get v) := by
  induction n with
  | zero => rfl
  | succ n ih =>
    have hchip : ((State.cycle P)^[n] s).chip = s.chip := by rw [State.iterate_cycle, State.setVoices_chip]
    have hlast := h n (Nat.lt_succ_self n)
    rw [← hchip] at hlast
    rw [Function.iterate_succ_apply', State.cycle_osc_of_not_synced hlast, hchip,
      ih (fun k hk => h k (Nat.lt_succ_of_lt hk)), Function.iterate_succ_apply']

end Block

/-! ### The waveforms -/

section Waveforms

variable (o : Osc)

theorem Osc.sawtooth_toNat : o.sawtooth.toNat = o.acc.toNat / 2 ^ 12 := by
  have hacc := o.acc.isLt
  rw [Osc.sawtooth, BitVec.extractLsb'_toNat, Nat.shiftRight_eq_div_pow]
  omega

theorem Osc.triangle_toNat_of_falling {srcMsb : Bool} (h : (o.acc.getLsbD 23 ^^ (o.ring && srcMsb)) = true) :
    (o.triangle srcMsb).toNat = (2 ^ 24 - 1 - o.acc.toNat) / 2 ^ 11 % 2 ^ 12 := by
  rw [Osc.triangle, if_pos h, BitVec.extractLsb'_toNat, BitVec.toNat_not, Nat.shiftRight_eq_div_pow]

theorem Osc.triangle_toNat_of_rising {srcMsb : Bool} (h : (o.acc.getLsbD 23 ^^ (o.ring && srcMsb)) = false) :
    (o.triangle srcMsb).toNat = o.acc.toNat / 2 ^ 11 % 2 ^ 12 := by
  rw [Osc.triangle, h, if_neg Bool.false_ne_true, BitVec.extractLsb'_toNat, Nat.shiftRight_eq_div_pow]

theorem Osc.pulse_eq (P : Params) :
    o.pulse P = if P.testPulseHigh = true ∧ o.test = true then 0xFFF
                else if o.pw.toNat ≤ o.acc.toNat / 2 ^ 12 then 0xFFF else 0x000 := by
  simp only [Osc.pulse, Osc.sawtooth_toNat, Bool.and_eq_true]

/-- The noise output as a number: each tapped bit with the weight of its output bit (40_oscillator R115). -/
theorem noiseOutput_toNat (sr : BitVec 23) :
    (noiseOutput sr).toNat =
      (sr.getLsbD 20).toNat * 2048 + (sr.getLsbD 18).toNat * 1024 + (sr.getLsbD 14).toNat * 512 +
      (sr.getLsbD 11).toNat * 256 + (sr.getLsbD 9).toNat * 128 + (sr.getLsbD 5).toNat * 64 +
      (sr.getLsbD 2).toNat * 32 + (sr.getLsbD 0).toNat * 16 := by
  have hfirst : (sr.extractLsb' 20 1).toNat = (sr.getLsbD 20).toNat := by
    rw [extractLsb'_one, BitVec.toNat_ofBool]
  have hpad (x : BitVec 8) : (x ++ 0#4).toNat = x.toNat * 16 := by
    rw [BitVec.toNat_append, Nat.shiftLeft_eq, BitVec.toNat_ofNat, Nat.zero_mod, Nat.or_zero]
  simp only [noiseOutput, append_extractLsb'_one]
  rw [hpad]
  simp only [BitVec.toNat_concat, hfirst]
  ring

end Waveforms

/-! ### The obligations -/

/-- Settles O9: the effect of each half's write, computed once, is what MOS6581 answers. -/
theorem frequencyWritesReplaceOneHalf : Obligations.FrequencyWritesReplaceOneHalf := by
  unfold Obligations.FrequencyWritesReplaceOneHalf
  exact fun v d s =>
    voiceWrites_of_apply (State.apply_voiceAddr params s v .freqLo d) (State.apply_voiceAddr params s v .freqHi d)

/-- Settles O10, as the frequency writes. -/
theorem pulseWidthWritesReplaceOnePart : Obligations.PulseWidthWritesReplaceOnePart := by
  unfold Obligations.PulseWidthWritesReplaceOnePart
  exact fun v d s =>
    voiceWrites_of_apply (State.apply_voiceAddr params s v .pwLo d) (State.apply_voiceAddr params s v .pwHi d)

/-- Settles O11: the oscillator's half by its test edge and floating entry, the envelope's by its gate edge. -/
theorem controlWriteReachesBothComponents : Obligations.ControlWriteReachesBothComponents := by
  unfold Obligations.ControlWriteReachesBothComponents
  intro v d s o e sel rises falls enters gateOn gateOff o' e' t
  have ho : o.writeControl params s.chip (oscOutput params s.chip s.osc v) d = o' := by
    rw [Osc.writeControl, Osc.floatEntry_eq, Osc.testEdge_eq]
    rfl
  have he : e.gateWrite params (ctlGate d) = e' := Env.gateWrite_eq params e (ctlGate d)
  have ht : s.apply params (voiceAddr v .control) d = t := by
    rw [State.apply_voiceAddr, State.writeVoice, State.writeControl]
    change State.setVoices _ (s.osc.set v (o.writeControl params s.chip (oscOutput params s.chip s.osc v) d))
      (s.env.set v (e.gateWrite params (ctlGate d))) = t
    rw [ho, he]
    rfl
  exact ⟨ht, exec_voiceWrite_of_apply ht⟩

/-- Settles O28: under the test bit the shift-register countdown in either mode, else the add; the floating countdown
after both. -/
theorem oscillatorCycle : Obligations.OscillatorCycle := by
  unfold Obligations.OscillatorCycle
  intro P c o
  dsimp only
  by_cases ht : o.test = true
  · rw [Osc.cycle_of_tested ht, Osc.floatDecay_eq]
    cases hm : P.srResetMode with
    | jump => simp [Osc.shiftResetCountdown_of_jump c _ hm, ht]
    | bitfade =>
      rw [Osc.shiftResetCountdown_of_bitfade c _ hm]
      by_cases h1 : o.srResetCnt = 1 <;> simp [ht, h1, bitFade]
  · rw [Osc.cycle_of_untested (by simpa using ht), Osc.floatDecay_eq, Osc.count]
    simp only [acc_add_freq_eq_ofNat, shiftNoise_eq_ofNat, noiseEvent_eq, ht]
    rfl

/-- Settles O29: under JUMP the shift-register reset is a countdown over the noise register. -/
theorem heldTestBitResetsTheNoiseRegister : Obligations.HeldTestBitResetsTheNoiseRegister := by
  unfold Obligations.HeldTestBitResetsTheNoiseRegister
  intro P c o n hm ht harmed
  exact Osc.iterate_cycle_countdown (cnt := Osc.srResetCnt) (val := Osc.sr)
    (fun i => Osc.cycle_tested_jump hm ((Osc.iterate_cycle_test i o).trans ht)) harmed n

/-- Settles O30: zero is a fixed point of the shift. -/
theorem zeroNoiseRegisterLocksUp : Obligations.ZeroNoiseRegisterLocksUp := by
  unfold Obligations.ZeroNoiseRegisterLocksUp
  intro P c o n ht hz
  induction n with
  | zero => exact hz
  | succ n ih =>
    rw [Function.iterate_succ_apply']
    exact Osc.cycle_sr_zero ((Osc.iterate_cycle_test n o).trans ht) ih

/-- Settles O31: the floating output decays by a countdown over its value. -/
theorem floatingOutputHoldsThenReadsZero : Obligations.FloatingOutputHoldsThenReadsZero := by
  unfold Obligations.FloatingOutputHoldsThenReadsZero
  intro P c o n hs harmed
  exact (Osc.iterate_cycle_countdown (cnt := Osc.floatCnt) (val := Osc.floatVal)
    (fun i => Osc.cycle_floating ((Osc.iterate_cycle_sel i o).trans hs)) harmed n).2

/-- Settles O32: a voice that sync never resets runs by itself, and its accumulator then adds the frequency n times. -/
theorem accumulatorAfterCycles : Obligations.AccumulatorAfterCycles := by
  unfold Obligations.AccumulatorAfterCycles
  intro P s v n ht hsync
  rw [State.iterate_cycle_osc_of_not_synced hsync, Osc.iterate_cycle_acc ht]

/-- Settles O33, waveform by waveform. -/
theorem baseWaveforms : Obligations.BaseWaveforms := by
  unfold Obligations.BaseWaveforms
  exact fun P o srcMsb => ⟨o.triangle_toNat_of_falling, o.triangle_toNat_of_rising, o.sawtooth_toNat, o.pulse_eq P,
    noiseOutput_toNat o.sr⟩

/-- Settles O34: the selector as a number picks the same case as the selector as a word. -/
theorem outputMultiplexer : Obligations.OutputMultiplexer := by
  unfold Obligations.OutputMultiplexer
  intro P c osc v o srcMsb
  have hout : oscOutput P c osc v = o.output P c srcMsb := by
    cases v <;> rfl
  have hsel (k : BitVec 4) : o.sel = k ↔ o.sel.toNat = k.toNat := BitVec.toNat_inj.symm
  rw [hout]
  split
  case h_6 h0 h1 h2 h4 h8 =>
    rw [Osc.output, if_neg (mt (hsel 0).1 h0), if_neg (mt (hsel 1).1 h1), if_neg (mt (hsel 2).1 h2),
      if_neg (mt (hsel 4).1 h4), if_neg (mt (hsel 8).1 h8), Osc.combined]
  all_goals
    next h => simp [Osc.output, hsel, h]

end Sys2Proof.Machine

/-!
PROOFS. The statements about the envelope generator (41_envelope): its register writes, the gate pipeline, the rate
counter over any number of cycles, the exponential period, and what a tick does in each state.
-/

namespace Sys2Proof.Machine

section Envelope

variable {P : Params} {e : Env}

/-! ### The register writes -/

theorem Env.writeAttackDecay_eq (P : Params) (e : Env) (d : Byte) :
    e.writeAttackDecay P d =
      { e with
        attack := hiNibble d
        decay := loNibble d
        ratePeriod := if e.state = .attack then P.ratePeriod (hiNibble d)
                      else if e.state = .decaySustain then P.ratePeriod (loNibble d) else e.ratePeriod } := by
  unfold Env.writeAttackDecay
  cases e.state <;> simp

theorem Env.writeSustainRelease_eq (P : Params) (e : Env) (d : Byte) :
    e.writeSustainRelease P d =
      { e with
        sustain := hiNibble d
        release := loNibble d
        ratePeriod := if e.state = .release then P.ratePeriod (loNibble d) else e.ratePeriod } := by
  unfold Env.writeSustainRelease
  cases e.state <;> simp

/-! ### The gate pipeline (41_envelope R148) -/

theorem Env.pipelineStep_of_pipeCnt_ne_one (h : e.pipeCnt ≠ 1) :
    e.pipelineStep P = { e with pipeCnt := e.pipeCnt - 1 } := by
  rw [Env.pipelineStep, if_neg h]
  split
  · next h0 =>
    have hkept : e.pipeCnt - 1 = e.pipeCnt := by omega
    rw [hkept]
  · rfl

theorem Env.pipelineStep_of_pipeCnt_one (h : e.pipeCnt = 1) :
    e.pipelineStep P = Env.enterState P { e with pipeCnt := 0 } e.pipeNext := by
  rw [Env.pipelineStep, if_neg (by omega), if_pos h]

/-- A cycle's pipeline step keeps a held counter held and out of ATTACK, or enters ATTACK. -/
theorem Env.pipelineStep_of_held (hheld : e.holdZero = true) (hs : e.state ≠ .attack) :
    (e.pipelineStep P).cnt = e.cnt ∧
      ((e.pipelineStep P).state = .attack ∨
        (e.pipelineStep P).holdZero = true ∧ (e.pipelineStep P).state ≠ .attack) := by
  by_cases h1 : e.pipeCnt = 1
  · rw [Env.pipelineStep_of_pipeCnt_one h1]
    cases e.pipeNext with
    | attack => exact ⟨rfl, .inl rfl⟩
    | release => exact ⟨rfl, .inr ⟨hheld, by simp [Env.enterState]⟩⟩
  · rw [Env.pipelineStep_of_pipeCnt_ne_one h1]
    exact ⟨rfl, .inr ⟨hheld, hs⟩⟩

/-! ### The rate counter (41_envelope R149) -/

theorem rateNext_eq (P : Params) (c : BitVec 15) :
    rateNext P c =
      if c.toNat + 1 = 0x8000 then P.rateWrapTo.setWidth 15 else BitVec.ofNat 15 (c.toNat + 1) := by
  have hmax : c = 0x7FFF ↔ c.toNat + 1 = 0x8000 := by
    rw [← BitVec.toNat_inj, ← Nat.add_right_cancel_iff (n := 1)]
    rfl
  rw [rateNext, if_congr hmax rfl rfl]
  simp [BitVec.ofNat_add]

theorem Env.cycle_of_rateNext_ne (h : rateNext P (e.pipelineStep P).rateCnt ≠ (e.pipelineStep P).ratePeriod) :
    e.cycle P = { e.pipelineStep P with rateCnt := rateNext P (e.pipelineStep P).rateCnt } := by
  rw [Env.cycle, Env.rateStep, if_neg h]

theorem Env.cycle_of_rateNext_eq (h : rateNext P (e.pipelineStep P).rateCnt = (e.pipelineStep P).ratePeriod) :
    e.cycle P = Env.tick P { e.pipelineStep P with rateCnt := 0 } := by
  rw [Env.cycle, Env.rateStep, if_pos h]

/-- A cycle is a tick or stores a count, after its pipeline step. -/
theorem Env.cycle_cases (P : Params) (e : Env) :
    (∃ r, e.cycle P = { e.pipelineStep P with rateCnt := r }) ∨
      e.cycle P = Env.tick P { e.pipelineStep P with rateCnt := 0 } := by
  by_cases h : rateNext P (e.pipelineStep P).rateCnt = (e.pipelineStep P).ratePeriod
  · exact .inr (Env.cycle_of_rateNext_eq h)
  · exact .inl ⟨_, Env.cycle_of_rateNext_ne h⟩

/-- A cycle that enters no state and is no tick moves the two counters only. -/
theorem Env.cycle_of_no_tick (hpipe : e.pipeCnt ≠ 1) (h : rateNext P e.rateCnt ≠ e.ratePeriod) :
    e.cycle P = { e with rateCnt := rateNext P e.rateCnt, pipeCnt := e.pipeCnt - 1 } := by
  have hstep := Env.pipelineStep_of_pipeCnt_ne_one (P := P) hpipe
  rw [Env.cycle_of_rateNext_ne (by rwa [hstep]), hstep]

/-- A cycle that enters no state and ends the period is a tick. -/
theorem Env.cycle_of_tick (hpipe : e.pipeCnt ≠ 1) (h : rateNext P e.rateCnt = e.ratePeriod) :
    e.cycle P = Env.tick P { e with rateCnt := 0, pipeCnt := e.pipeCnt - 1 } := by
  have hstep := Env.pipelineStep_of_pipeCnt_ne_one (P := P) hpipe
  rw [Env.cycle_of_rateNext_eq (by rwa [hstep]), hstep]

/-- Cycles of which none enters a state or is a tick move the two counters only. -/
theorem Env.iterate_cycle_of_no_tick {n : Nat} (hpipe : e.pipeCnt = 0 ∨ n < e.pipeCnt)
    (hquiet : ∀ k, 0 < k → k ≤ n → (rateNext P)^[k] e.rateCnt ≠ e.ratePeriod) :
    (Env.cycle P)^[n] e = { e with rateCnt := (rateNext P)^[n] e.rateCnt, pipeCnt := e.pipeCnt - n } := by
  induction n with
  | zero => rfl
  | succ n ih =>
    have hlast := hquiet (n + 1) n.succ_pos (le_refl _)
    rw [Function.iterate_succ_apply'] at hlast
    rw [Function.iterate_succ_apply', ih (by omega) (fun k h0 hk => hquiet k h0 (by omega)),
      Env.cycle_of_no_tick (by dsimp only; omega) hlast, Function.iterate_succ_apply', Nat.sub_sub]

/-- Below the wrap the counter counts the cycles. -/
theorem iterate_rateNext_toNat {c : BitVec 15} {k : Nat} (h : c.toNat + k < 0x8000) :
    ((rateNext P)^[k] c).toNat = c.toNat + k := by
  induction k with
  | zero => rfl
  | succ k ih =>
    have hprev := ih (by omega)
    rw [Function.iterate_succ_apply', rateNext_eq, hprev, if_neg (by omega), BitVec.toNat_ofNat,
      Nat.mod_eq_of_lt (by omega), Nat.add_assoc]

/-- After the wrap the counter counts the cycles from RATE_WRAP_TO on. -/
theorem iterate_rateNext_toNat_wrapped {c : BitVec 15} {k : Nat} (hk : 0x8000 ≤ c.toNat + k)
    (h : P.rateWrapTo.toNat + (c.toNat + k - 0x8000) < 0x8000) :
    ((rateNext P)^[k] c).toNat = P.rateWrapTo.toNat + (c.toNat + k - 0x8000) := by
  have hc := c.isLt
  obtain ⟨j, rfl⟩ : ∃ j, k = j + (0x7FFF - c.toNat + 1) := ⟨k - (0x7FFF - c.toNat + 1), by omega⟩
  have hlast : ((rateNext P)^[0x7FFF - c.toNat] c).toNat = 0x7FFF := by
    rw [iterate_rateNext_toNat (by omega)]
    omega
  have hwrap : (rateNext P)^[0x7FFF - c.toNat + 1] c = P.rateWrapTo.setWidth 15 := by
    rw [Function.iterate_succ_apply', rateNext_eq, hlast, if_pos rfl]
  have hfrom : (P.rateWrapTo.setWidth 15).toNat = P.rateWrapTo.toNat := by
    rw [BitVec.toNat_setWidth, Nat.mod_eq_of_lt (by omega)]
  rw [Function.iterate_add_apply, hwrap, iterate_rateNext_toNat (by omega), hfrom]
  omega

/-- The number of cycles until the counter, now at `c`, equals the period `p` (41_envelope R162). -/
def rateDelay (P : Params) (c p : BitVec 15) : Nat :=
  if c.toNat < p.toNat then p.toNat - c.toNat else (0x8000 - c.toNat) + (p.toNat - P.rateWrapTo.toNat)

theorem rateDelay_pos (P : Params) (c p : BitVec 15) : 0 < rateDelay P c p := by
  have hc := c.isLt
  unfold rateDelay
  split <;> omega

/-- The counter reaches the period at the end of the delay, and not before. -/
theorem iterate_rateNext_eq_iff {c p : BitVec 15} {k : Nat} (hp0 : p ≠ 0) (h0 : 0 < k) (hk : k ≤ rateDelay P c p) :
    (rateNext P)^[k] c = p ↔ k = rateDelay P c p := by
  have hpos : 0 < p.toNat := Nat.pos_of_ne_zero fun h => hp0 (BitVec.eq_of_toNat_eq h)
  have hc := c.isLt
  have hp := p.isLt
  have hw := P.rateWrapTo.isLt
  rw [← BitVec.toNat_inj]
  unfold rateDelay at hk ⊢
  by_cases hlt : c.toNat < p.toNat
  · rw [if_pos hlt] at hk ⊢
    rw [iterate_rateNext_toNat (by omega)]
    omega
  · rw [if_neg hlt] at hk ⊢
    by_cases hbelow : c.toNat + k < 0x8000
    · rw [iterate_rateNext_toNat hbelow]
      omega
    · rw [iterate_rateNext_toNat_wrapped (by omega) (by omega)]
      omega

/-! ### The exponential period and the hold (41_envelope R142, R152) -/

theorem expPeriodOf_ticks (c : Byte) :
    (expPeriodOf c).ticks =
      if 0x5E ≤ c.toNat then 1 else if 0x37 ≤ c.toNat then 2 else if 0x1B ≤ c.toNat then 4
      else if 0x0F ≤ c.toNat then 8 else if 0x07 ≤ c.toNat then 16 else if 0x01 ≤ c.toNat then 30 else 1 := by
  simp only [expPeriodOf, apply_ite ExpPeriod.ticks]
  rfl

theorem expPeriodLatched_ticks (c : Byte) (old : ExpPeriod) :
    (expPeriodLatched c old).ticks =
      if c.toNat = 0xFF then 1 else if c.toNat = 0x5D then 2 else if c.toNat = 0x36 then 4
      else if c.toNat = 0x1A then 8 else if c.toNat = 0x0E then 16 else if c.toNat = 0x06 then 30
      else if c.toNat = 0x00 then 1 else old.ticks := by
  have hnum (k : Byte) : c = k ↔ c.toNat = k.toNat := BitVec.toNat_inj.symm
  simp only [expPeriodLatched, apply_ite ExpPeriod.ticks, hnum]
  rfl

theorem holdZeroAfter_eq (c : Byte) (old : Bool) : holdZeroAfter c old = (old || decide (c.toNat = 0)) := by
  unfold holdZeroAfter
  split
  · next hz => simp [hz]
  · next hz => simp [show c.toNat ≠ 0 from fun h => hz (BitVec.eq_of_toNat_eq h)]

/-! ### A tick in ATTACK (41_envelope R153) -/

theorem Env.tick_of_attack (h : e.state = .attack) : e.tick P = Env.attackStep P { e with expCnt := 0 } := by
  simp only [Env.tick, h]

theorem Env.attackStep_of_full (h : e.cnt = 0xFF) :
    e.attackStep P = { e with state := .decaySustain, ratePeriod := P.ratePeriod e.decay } := by
  simp [Env.attackStep, h]

theorem Env.attackStep_of_ne_full (h : e.cnt ≠ 0xFF) :
    e.attackStep P =
      { e with
        cnt := e.cnt + 1
        expPeriod := (Env.expUpdate P { e with cnt := e.cnt + 1 }).expPeriod
        state := if e.cnt = 0xFE then .decaySustain else e.state
        ratePeriod := if e.cnt = 0xFE then P.ratePeriod e.decay else e.ratePeriod } := by
  have htop : (Env.expUpdate P { e with cnt := e.cnt + 1 }).cnt = 0xFF ↔ e.cnt = 0xFE := by
    change e.cnt + 1 = 0xFF ↔ e.cnt = 0xFE
    bv_omega
  have hkept : holdZeroAfter (e.cnt + 1) e.holdZero = e.holdZero := if_neg (by bv_omega)
  simp only [Env.attackStep, if_neg h, htop]
  split <;> simp only [Env.expUpdate, hkept]

/-! ### A tick in DECAY_SUSTAIN or RELEASE (41_envelope R151, R154, R155) -/

theorem sustainLevel_toNat (s : BitVec 4) : (sustainLevel s).toNat = s.toNat * 0x11 := by
  rw [sustainLevel, BitVec.toNat_append, ← Nat.shiftLeft_add_eq_or_of_lt s.isLt, Nat.shiftLeft_eq]
  omega

/-- The level below which the state does not take the counter. -/
def Env.floor (e : Env) : Nat := if e.state = .decaySustain then e.sustain.toNat * 0x11 else 0

/-- The step of the two falling states: one down above the floor; at the floor RELEASE holds the counter. -/
def Env.fall (P : Params) (e : Env) : Env :=
  if e.floor < e.cnt.toNat then Env.expUpdate P { e with cnt := e.cnt - 1 }
  else { e with holdZero := e.holdZero || decide (e.state = .release) }

theorem Env.decayStep_eq_fall (h : e.state = .decaySustain) : e.decayStep P = e.fall P := by
  have hkept : (e.holdZero || decide (e.state = .release)) = e.holdZero := by simp [h]
  rw [Env.decayStep, Env.fall, Env.floor, if_pos h, sustainLevel_toNat, hkept]

theorem Env.releaseStep_eq_fall (h : e.state = .release) : e.releaseStep P = e.fall P := by
  have hfloor : e.floor = 0 := if_neg (by simp [h])
  rw [Env.releaseStep, Env.fall, hfloor]
  split
  · next hz => simp [hz, h]
  · next hz => rw [if_pos (by bv_omega)]

theorem Env.tick_of_ne_attack (h : e.state ≠ .attack) : e.tick P = e.expTick (Env.fall P) := by
  unfold Env.tick
  split
  · next hs => exact absurd hs h
  · next hs => simp only [Env.expTick, Env.decayStep_eq_fall (e := { e with expCnt := 0 }) hs]
  · next hs => simp only [Env.expTick, Env.releaseStep_eq_fall (e := { e with expCnt := 0 }) hs]

theorem Env.tick_of_not_due (h : e.state ≠ .attack) (hdue : e.expCnt + 1 ≠ e.expPeriod.ticks) :
    e.tick P = { e with expCnt := e.expCnt + 1 } := by
  rw [Env.tick_of_ne_attack h, Env.expTick, if_pos hdue]

theorem Env.tick_of_due_held (h : e.state ≠ .attack) (hdue : e.expCnt + 1 = e.expPeriod.ticks)
    (hheld : e.holdZero = true) : e.tick P = { e with expCnt := 0 } := by
  rw [Env.tick_of_ne_attack h, Env.expTick, if_neg (not_not.2 hdue), if_pos hheld]

theorem Env.tick_of_due_free (h : e.state ≠ .attack) (hdue : e.expCnt + 1 = e.expPeriod.ticks)
    (hfree : e.holdZero = false) : e.tick P = Env.fall P { e with expCnt := 0 } := by
  rw [Env.tick_of_ne_attack h, Env.expTick, if_neg (not_not.2 hdue), hfree, if_neg Bool.false_ne_true]

/-- The fields a falling step may touch are the counter, the hold and the exponential period. -/
theorem Env.fall_eq (P : Params) (e : Env) :
    e.fall P =
      { e with cnt := (e.fall P).cnt, holdZero := (e.fall P).holdZero, expPeriod := (e.fall P).expPeriod } := by
  unfold Env.fall
  split <;> rfl

theorem Env.fall_cnt_toNat (P : Params) (e : Env) :
    (e.fall P).cnt.toNat = if e.floor < e.cnt.toNat then e.cnt.toNat - 1 else e.cnt.toNat := by
  unfold Env.fall
  split
  · next habove => exact BitVec.toNat_sub_of_le (show 1 ≤ e.cnt.toNat by omega)
  · rfl

theorem Env.fall_holdZero (P : Params) (hfree : e.holdZero = false) :
    (e.fall P).holdZero =
      decide ((e.floor < e.cnt.toNat ∧ e.cnt.toNat = 1) ∨ (e.state = .release ∧ e.cnt = 0)) := by
  unfold Env.fall
  split
  · next habove =>
    have hone : e.cnt - 1 = 0 ↔ e.cnt.toNat = 1 := by bv_omega
    have hnz : e.cnt ≠ 0 := by bv_omega
    change holdZeroAfter (e.cnt - 1) e.holdZero = _
    simp only [holdZeroAfter, hone, hfree, habove, hnz, true_and, and_false, or_false]
    rfl
  · next hat =>
    have hzero : e.state = .release → e.cnt = 0 := by
      intro hs
      rw [Env.floor, if_neg (by simp [hs])] at hat
      bv_omega
    change (e.holdZero || decide (e.state = .release)) = _
    simp only [hfree, Bool.false_or, hat, false_and, false_or, and_iff_left_of_imp hzero]

theorem Env.fall_expPeriod (P : Params) (e : Env) :
    (e.fall P).expPeriod =
      if e.floor < e.cnt.toNat then (Env.expUpdate P { e with cnt := e.cnt - 1 }).expPeriod else e.expPeriod := by
  rw [Env.fall, apply_ite Env.expPeriod]

/-- Only ATTACK is left by a tick (41_envelope R150). -/
theorem Env.tick_state_of_ne_attack (h : e.state ≠ .attack) :
    (e.tick P).state = e.state ∧ (e.tick P).ratePeriod = e.ratePeriod := by
  rw [Env.tick_of_ne_attack h, Env.expTick, Env.fall_eq]
  split_ifs <;> exact ⟨rfl, rfl⟩

/-- Outside ATTACK a tick never raises the counter, and never takes it below the floor. -/
theorem Env.tick_cnt_bounds (h : e.state ≠ .attack) :
    (e.tick P).cnt.toNat ≤ e.cnt.toNat ∧ (e.floor ≤ e.cnt.toNat → e.floor ≤ (e.tick P).cnt.toNat) := by
  rw [Env.tick_of_ne_attack h, Env.expTick]
  split_ifs
  · exact ⟨le_refl _, id⟩
  · exact ⟨le_refl _, id⟩
  · rw [Env.fall_cnt_toNat]
    change (if e.floor < e.cnt.toNat then e.cnt.toNat - 1 else e.cnt.toNat) ≤ e.cnt.toNat ∧
      (e.floor ≤ e.cnt.toNat → e.floor ≤ if e.floor < e.cnt.toNat then e.cnt.toNat - 1 else e.cnt.toNat)
    split <;> omega

/-- A held counter stays as it is in a tick outside ATTACK (41_envelope R143). -/
theorem Env.tick_of_held (h : e.state ≠ .attack) (hheld : e.holdZero = true) :
    (e.tick P).holdZero = true ∧ (e.tick P).cnt = e.cnt := by
  by_cases hdue : e.expCnt + 1 = e.expPeriod.ticks
  · rw [Env.tick_of_due_held h hdue hheld]
    exact ⟨hheld, rfl⟩
  · rw [Env.tick_of_not_due h hdue]
    exact ⟨hheld, rfl⟩

/-- A tick in ATTACK below the top stays in ATTACK. -/
theorem Env.tick_state_of_attack (h : e.state = .attack) (hcnt : e.cnt.toNat < 0xFE) :
    (e.tick P).state = .attack := by
  rw [Env.tick_of_attack h, Env.attackStep_of_ne_full (by bv_omega)]
  exact (if_neg (by bv_omega)).trans h

end Envelope

/-! ### The obligations -/

/-- Settles O12: the effect of each write, computed once, is what MOS6581 answers. -/
theorem envelopeWritesSetNibblesAndPeriod : Obligations.EnvelopeWritesSetNibblesAndPeriod := by
  unfold Obligations.EnvelopeWritesSetNibblesAndPeriod
  intro v d s e ad sr tad tsr
  have had : e.writeAttackDecay params d = ad := Env.writeAttackDecay_eq params e d
  have hsr : e.writeSustainRelease params d = sr := Env.writeSustainRelease_eq params e d
  refine voiceWrites_of_apply ?_ ?_
  · rw [State.apply_voiceAddr, State.writeVoice]
    exact congrArg (State.setEnv _ v) had
  · rw [State.apply_voiceAddr, State.writeVoice]
    exact congrArg (State.setEnv _ v) hsr

/-- Settles O38, case by case of the countdown and of the state it leads to. -/
theorem gatePipelineEntersItsState : Obligations.GatePipelineEntersItsState := by
  unfold Obligations.GatePipelineEntersItsState
  refine fun P e => ⟨fun h0 => if_pos h0, fun h2 => Env.pipelineStep_of_pipeCnt_ne_one (by omega),
    fun h1 hnext => ?_, fun h1 hnext => ?_⟩
  · rw [Env.pipelineStep_of_pipeCnt_one h1, hnext]
    rfl
  · rw [Env.pipelineStep_of_pipeCnt_one h1, hnext]
    rfl

/-- Settles O39: a cycle compares the next count with the period after the pipeline step. -/
theorem rateCounterTicksAtThePeriod : Obligations.RateCounterTicksAtThePeriod := by
  unfold Obligations.RateCounterTicksAtThePeriod
  intro P e e1 r
  have hr : rateNext P e1.rateCnt = r := rateNext_eq P e1.rateCnt
  rw [← hr]
  exact ⟨Env.cycle_of_rateNext_ne, Env.cycle_of_rateNext_eq⟩

/-- Settles O40: at the top only the state changes, below it the counter rises, and from 0xFE it reaches the top. -/
theorem attackTick : Obligations.AttackTick := by
  unfold Obligations.AttackTick
  intro P e hs t
  by_cases hfull : e.cnt = 0xFF
  · have ht : t = { e with expCnt := 0, state := .decaySustain, ratePeriod := P.ratePeriod e.decay } :=
      (Env.tick_of_attack hs).trans (Env.attackStep_of_full hfull)
    rw [ht]
    simp [hfull]
  · have ht : t = _ := (Env.tick_of_attack hs).trans (Env.attackStep_of_ne_full hfull)
    have hcnt : (e.cnt + 1).toNat = min (e.cnt.toNat + 1) 0xFF := by
      have hlt : e.cnt.toNat < 0xFF := by bv_omega
      rw [BitVec.toNat_add_of_lt (show e.cnt.toNat + 1 < 2 ^ 8 by omega)]
      exact (Nat.min_eq_left hlt).symm
    rw [ht, if_neg hfull]
    refine ⟨hcnt, rfl, fun hlow => ?_, fun htop => ?_, rfl, rfl, rfl, rfl, rfl, rfl, rfl, rfl, rfl, rfl⟩
    · have hlast : e.cnt ≠ 0xFE := by bv_omega
      exact ⟨(if_neg hlast).trans hs, if_neg hlast⟩
    · have hlast : e.cnt = 0xFE := by bv_omega
      exact ⟨if_pos hlast, if_pos hlast⟩

/-- Settles O41: the three cases of the exponential counter, the last by the falling step. -/
theorem decayAndReleaseTick : Obligations.DecayAndReleaseTick := by
  unfold Obligations.DecayAndReleaseTick
  intro P e hs t due floor
  obtain ⟨hstate, hrate⟩ := Env.tick_state_of_ne_attack (P := P) hs
  refine ⟨Env.tick_of_not_due hs, fun hdue => ?_, Env.tick_of_due_held hs, fun hdue hfree => ?_, hstate, hrate,
    Env.tick_rateCnt P e, Env.tick_attack P e, Env.tick_decay P e, Env.tick_sustain P e, Env.tick_release P e,
    Env.tick_gate P e, Env.tick_pipeCnt P e, Env.tick_pipeNext P e⟩
  · cases hz : e.holdZero with
    | true => exact congrArg Env.expCnt (Env.tick_of_due_held hs hdue hz)
    | false => exact congrArg Env.expCnt ((Env.tick_of_due_free hs hdue hz).trans (Env.fall_eq P _))
  · have ht : t = Env.fall P { e with expCnt := 0 } := Env.tick_of_due_free hs hdue hfree
    rw [ht]
    exact ⟨Env.fall_cnt_toNat P _, Env.fall_holdZero P hfree, Env.fall_expPeriod P _⟩

/-- Settles O42: the update of the two fields, each by its own table. -/
theorem exponentialPeriodFollowsTheCounter : Obligations.ExponentialPeriodFollowsTheCounter := by
  unfold Obligations.ExponentialPeriodFollowsTheCounter
  intro P e t c
  refine ⟨fun hm => ?_, fun hm => ?_, holdZeroAfter_eq e.cnt e.holdZero, rfl⟩
  · have ht : t.expPeriod = expPeriodOf e.cnt := by simp [t, Env.expUpdate, hm]
    rw [ht, expPeriodOf_ticks]
  · have ht : t.expPeriod = expPeriodLatched e.cnt e.expPeriod := by simp [t, Env.expUpdate, hm]
    rw [ht, expPeriodLatched_ticks]

/-- Settles O43: the counter first equals the period at the end of the delay, and no cycle before it is a tick. -/
theorem rateWraparoundDelay : Obligations.RateWraparoundDelay := by
  unfold Obligations.RateWraparoundDelay
  intro P e hp0 c p delay hpipe
  have hquiet (n : Nat) (hn : n < delay) : (Env.cycle P)^[n] e =
      { e with rateCnt := (rateNext P)^[n] e.rateCnt, pipeCnt := e.pipeCnt - n } :=
    Env.iterate_cycle_of_no_tick (by omega) fun k h0 hk =>
      mt (iterate_rateNext_eq_iff hp0 h0 (hk.trans hn.le)).1 (by change k ≠ delay; omega)
  refine ⟨fun k hk => ⟨_, hquiet k hk⟩, ?_⟩
  have hpos : 0 < delay := rateDelay_pos P e.rateCnt e.ratePeriod
  have hreached : (rateNext P)^[delay] e.rateCnt = e.ratePeriod :=
    (iterate_rateNext_eq_iff hp0 hpos (le_refl _)).2 rfl
  obtain ⟨n, hn⟩ : ∃ n, delay = n + 1 := ⟨delay - 1, by omega⟩
  rw [hn, Function.iterate_succ_apply'] at hreached
  rw [hn, Function.iterate_succ_apply', hquiet n (by omega), Env.cycle_of_tick (by dsimp only; omega) hreached,
    Nat.sub_sub]

/-- Settles O44: a held counter is 0 and not in ATTACK, the pipeline leaves it so unless it enters ATTACK, and from 0
a tick does not end ATTACK again. -/
theorem frozenEnvelopeStaysFrozen : Obligations.FrozenEnvelopeStaysFrozen := by
  unfold Obligations.FrozenEnvelopeStaysFrozen
  intro e hinv hheld hnot
  obtain ⟨-, hzero, -⟩ := hinv
  obtain ⟨hcnt0, hs⟩ := hzero hheld
  obtain ⟨hcnt, hpipe⟩ := Env.pipelineStep_of_held (P := params) hheld hs
  rw [hcnt0] at hcnt
  rcases Env.cycle_cases params e with ⟨r, hcycle⟩ | hcycle <;> rw [hcycle] at hnot ⊢
  · rcases hpipe with hatt | ⟨hheld', -⟩
    · exact (hnot hatt).elim
    · exact ⟨hheld', hcnt⟩
  · rcases hpipe with hatt | ⟨hheld', hs'⟩
    · exact (hnot (Env.tick_state_of_attack hatt (by simp [hcnt]))).elim
    · have hkept := Env.tick_of_held (P := params) (e := { e.pipelineStep params with rateCnt := 0 }) hs' hheld'
      exact ⟨hkept.1, hkept.2.trans hcnt⟩

/-- Settles O45: the pipeline only counts, and a tick keeps to the floor. -/
theorem decayStopsAtTheSustainLevel : Obligations.DecayStopsAtTheSustainLevel := by
  unfold Obligations.DecayStopsAtTheSustainLevel
  intro P e hs hpipe
  have hstep := Env.pipelineStep_of_pipeCnt_ne_one (P := P) hpipe
  rcases Env.cycle_cases P e with ⟨r, hcycle⟩ | hcycle <;> rw [hcycle, hstep]
  · exact ⟨le_refl _, id⟩
  · have hbounds := Env.tick_cnt_bounds (P := P) (e := { e with rateCnt := 0, pipeCnt := e.pipeCnt - 1 })
      (by simp [hs])
    rw [Env.floor, if_pos hs] at hbounds
    exact hbounds

end Sys2Proof.Machine

/-!
PROOFS. The statements about the filter (42_filter): its register writes, routing, the enabled and the disabled
advance, the output, its resonance table, and the operations that leave the signed state of both filters alone.
-/

namespace Sys2Proof.Machine

/-! ### The register writes -/

/-- A filter register's write stores the byte, then changes the filter (45_chip R241, R244). -/
theorem State.apply_filterAddr (P : Params) (s : State) (r : FilterReg) (d : Byte) :
    s.apply P (filterAddr r) d =
      State.writeFilter { s with shadow := s.shadow.write (filterAddr r).toNat d, lastBus := d } r d := by
  rw [State.apply, targetOf_filterAddr, State.storeShadow, State.dispatch]

/-- On MOS6581 a live block answers a filter register's write with its immediate effect (45_chip R240). -/
theorem exec_filterWrite_of_apply {s t : State} {r : FilterReg} {d : Byte}
    (h : s.apply params (filterAddr r) d = t) (hs : s.live) (hc : s.chip = .mos6581) :
    exec (filterWrite r d) s = .next t := by
  rw [filterWrite_eq, exec_writeAt_mos6581 _ _ _ hs hc, h]

/-! ### Routing -/

/-- The four shifted inputs with their routing bits; voice 2 is 0 when muted and not routed (42_filter R185, R186). -/
def shiftedInputs (P : Params) (f : Filter) (x0 x1 x2 x : Int) : List (Bool × Int) :=
  [(f.filt.getLsbD 0, x0 >>> P.filterInShift), (f.filt.getLsbD 1, x1 >>> P.filterInShift),
    (f.filt.getLsbD 2, if f.voice3off = true ∧ f.filt.getLsbD 2 = false then 0 else x2 >>> P.filterInShift),
    (f.filt.getLsbD 3, x >>> P.filterInShift)]

section Routing

variable {P : Params} {f : Filter} {x0 x1 x2 x vi vnf : Int}

theorem routeInputs_cases {inputs : List (Bool × Int)} (h : routeInputs P f x0 x1 x2 x = .ok inputs) :
    inputs = shiftedInputs P f x0 x1 x2 x := by
  simp only [routeInputs, bind_eq_ok, checked_eq_ok, Bool.and_eq_true, Bool.not_eq_true'] at h
  obtain ⟨_, ⟨-, rfl⟩, _, ⟨-, rfl⟩, _, ⟨-, rfl⟩, _, ⟨-, rfl⟩, h⟩ := h
  cases h
  rfl

/-- A sum over some inputs is one over all of them in which the others count as 0. -/
theorem sum_filter_inputs (p : Bool × Int → Bool) (inputs : List (Bool × Int)) :
    ((inputs.filter p).map Prod.snd).sum = (inputs.map fun q => if p q then q.2 else 0).sum := by
  induction inputs with
  | nil => rfl
  | cons q inputs ih => cases hq : p q <;> simp [hq, ih]

/-- Routing sums all four inputs twice; in each sum those that go the other way count as 0. -/
theorem route_cases (h : route P f x0 x1 x2 x = .ok (vi, vnf)) :
    vi = ((shiftedInputs P f x0 x1 x2 x).map fun q => if q.1 then q.2 else 0).sum ∧
      vnf = ((shiftedInputs P f x0 x1 x2 x).map fun q => if q.1 then 0 else q.2).sum := by
  simp only [route, bind_eq_ok] at h
  obtain ⟨inputs, hin, a, ha, b, hb, h⟩ := h
  cases h
  have hnot (q : Bool × Int) : (if !q.1 then q.2 else 0) = if q.1 then 0 else q.2 := by cases q.1 <;> rfl
  rw [← routeInputs_cases hin, checkedSum_eq_ok _ _ _ _ ha, checkedSum_eq_ok _ _ _ _ hb, sum_filter_inputs,
    sum_filter_inputs]
  simp only [hnot, and_self]

/-- The two sums together are that of all four inputs. -/
theorem route_add (h : route P f x0 x1 x2 x = .ok (vi, vnf)) :
    vi + vnf = ((shiftedInputs P f x0 x1 x2 x).map Prod.snd).sum := by
  have hadd (q : Bool × Int) : (if q.1 then q.2 else 0) + (if q.1 then 0 else q.2) = q.2 := by cases q.1 <;> simp
  obtain ⟨rfl, rfl⟩ := route_cases h
  rw [← List.sum_map_add]
  simp only [hadd]

end Routing

/-! ### The filter's advance -/

section Advance

variable {P : Params} {c : Chip} {cfg : Cfg} {n : Nat} {x0 x1 x2 vi vnf : Int} {f g : Filter}

/-- The enabled filter routes its inputs, then steps on the routed sum (42_filter R187). -/
theorem filterAdvance_of_enabled (hn : 1 ≤ n) (hen : cfg.filterEnabled = true)
    (h : route P f x0 x1 x2 cfg.extIn = .ok (vi, vnf)) :
    filterAdvance P c cfg n x0 x1 x2 f =
      if n = 1 then svfStep1 P c vi { f with vnf := vnf } else svfStepsDt P c n vi { f with vnf := vnf } := by
  rw [filterAdvance, if_neg (Nat.one_le_iff_ne_zero.1 hn), h, ok_bind]
  exact if_pos hen

/-- The disabled filter adds both sums of the routing up (42_filter R190). -/
theorem filterAdvance_disabled_cases (hn : 1 ≤ n) (hoff : cfg.filterEnabled = false)
    (h : filterAdvance P c cfg n x0 x1 x2 f = .ok g) :
    ∃ vi vnf, route P f x0 x1 x2 cfg.extIn = .ok (vi, vnf) ∧
      g = { f with vnf := vi + vnf, vhp := 0, vbp := 0, vlp := 0 } := by
  rw [filterAdvance, if_neg (Nat.one_le_iff_ne_zero.1 hn)] at h
  obtain ⟨⟨vi, vnf⟩, hroute, h⟩ := (bind_eq_ok _ _ _).1 h
  simp only [hoff, Bool.false_eq_true, if_false, bind_eq_ok, checked_eq_ok] at h
  obtain ⟨_, ⟨-, rfl⟩, h⟩ := h
  cases h
  exact ⟨vi, vnf, hroute, rfl⟩

/-- Up to eight cycles are one sub-step (42_filter R189). -/
theorem svfStepsDt_of_le (h1 : 1 ≤ n) (h8 : n ≤ 8) : svfStepsDt P c n vi f = svfSubStep P c vi f n := by
  rw [svfStepsDt, subSteps_of_le n h1 h8, List.foldlM_cons]
  exact bind_pure _

/-- Of more than eight cycles the first eight are a sub-step (42_filter R189). -/
theorem svfStepsDt_add :
    svfStepsDt P c (8 + n) vi f = svfSubStep P c vi f 8 >>= svfStepsDt P c n vi := by
  rw [svfStepsDt, subSteps_add, List.foldlM_cons]
  rfl

end Advance

/-! ### The signed state -/

/-- Both filters' signed state is the same in the two states (42_filter R187). -/
def State.sameSigned (s t : State) : Prop :=
  t.flt.vhp = s.flt.vhp ∧ t.flt.vbp = s.flt.vbp ∧ t.flt.vlp = s.flt.vlp ∧ t.flt.vnf = s.flt.vnf ∧ t.ext = s.ext

section Signed

variable {s t : State}

theorem State.sameSigned_of_kept (hflt : t.flt = s.flt) (hext : t.ext = s.ext) : s.sameSigned t := by
  rw [State.sameSigned, hflt]
  exact ⟨rfl, rfl, rfl, rfl, hext⟩

/-- Of the shared operations only ADVANCE and RESET move the filters. -/
theorem Effect.sameSigned {i : Instr} (h : Effect s i t) (hadv : ∀ n, i ≠ .advance n) (hreset : i ≠ .reset) :
    s.sameSigned t := by
  cases h with
  | write _ a d =>
    obtain ⟨hhp, hbp, hlp, hnf, hext, -, -⟩ := State.writeInRange_frame params s a d
    exact ⟨hhp, hbp, hlp, hnf, hext⟩
  | ignored => exact State.sameSigned_of_kept rfl rfl
  | read => exact State.sameSigned_of_kept rfl rfl
  | refused _ a =>
    obtain ⟨hflt, hext, -, -⟩ := State.refuse_frame s (.readOutOfRange a.toNat)
    exact State.sameSigned_of_kept hflt hext
  | advance n => exact absurd rfl (hadv n)
  | reset => exact absurd rfl hreset
  | setChipType c =>
    obtain ⟨hhp, hbp, hlp, hnf, hext, -, -⟩ := State.flush_frame params s
    exact ⟨hhp, hbp, hlp, hnf, hext⟩
  | setFilterEnable e => exact State.sameSigned_of_kept rfl rfl
  | setExtEnable e => exact State.sameSigned_of_kept rfl rfl
  | setExtInput x => exact State.sameSigned_of_kept rfl rfl
  | audioOutput b =>
    obtain ⟨hflt, hext, -, -⟩ := State.audioOutputOp_frame params s b
    exact State.sameSigned_of_kept hflt hext

end Signed

/-! ### The obligations -/

/-- Settles O13: the effect of each register's write, computed once, is what MOS6581 answers. -/
theorem filterWritesSetTheirFields : Obligations.FilterWritesSetTheirFields := by
  unfold Obligations.FilterWritesSetTheirFields
  intro r d s f t
  have ht : s.apply params (filterAddr r) d = t := by
    rw [State.apply_filterAddr]
    cases r <;> rfl
  exact ⟨ht, exec_filterWrite_of_apply ht⟩

/-- Settles O46: both sums over all four inputs, the ones that go the other way counting as 0. -/
theorem routingSums : Obligations.RoutingSums := by
  unfold Obligations.RoutingSums
  intro P f x0 x1 x2 x vi vnf h i0 i1 i2 ix on off
  obtain ⟨rfl, rfl⟩ := route_cases h
  constructor
  · simp [shiftedInputs, on, i0, i1, i2, ix, add_assoc]
  · simp [shiftedInputs, off, i0, i1, i2, ix, add_assoc]

/-- Settles O47: both kinds of step are the filter step with their own coefficient, and the
advance is made of them. -/
theorem filterStepEquations : Obligations.FilterStepEquations := by
  unfold Obligations.FilterStepEquations
  intro P c vi f g hp w1 wdt
  have hw1 : (w0Ceil1 P c f.fc : Int) = w1 := Nat.cast_min _ _
  have hwdt : (w0CeilDt P c f.fc : Int) = wdt := Nat.cast_min _ _
  rw [← hw1, ← hwdt]
  refine ⟨fun h => ?_, fun d h => ?_, fun cfg n x0 x1 x2 vnf => filterAdvance_of_enabled,
    fun n => svfStepsDt_of_le, fun n _ => svfStepsDt_add, by decide⟩
  · obtain ⟨rfl, -⟩ := svfStep_cases h
    rfl
  · obtain ⟨rfl, -⟩ := svfStep_cases (svfSubStep_cases h)
    rfl

/-- Settles O49: the routed inputs and the others together are all four. -/
theorem disabledFilterBypassesEverything : Obligations.DisabledFilterBypassesEverything := by
  unfold Obligations.DisabledFilterBypassesEverything
  intro P c cfg n x0 x1 x2 f g hn hoff h
  obtain ⟨vi, vnf, hroute, rfl⟩ := filterAdvance_disabled_cases hn hoff h
  rw [route_add hroute]
  simp [shiftedInputs, add_assoc]

/-- Settles O50: the checked sums are the sums. -/
theorem filterOutputFormula : Obligations.FilterOutputFormula := by
  unfold Obligations.FilterOutputFormula
  intro P c cfg f x h vf
  simp only [filterOutput, bind_eq_ok, checked_eq_ok] at h
  obtain ⟨sum, hsum, _, ⟨-, rfl⟩, _, ⟨-, rfl⟩, _, ⟨-, rfl⟩, -, rfl⟩ := h
  have hvf : sum = vf := (checkedSum_eq_ok _ _ _ _ hsum).trans (by simp [vf, add_assoc])
  rw [hvf]

/-- Settles O52: a marked block is unchanged, and on a live one the shared operation decides. -/
theorem onlyAdvanceAndResetMoveTheFilters : Obligations.OnlyAdvanceAndResetMoveTheFilters := by
  unfold Obligations.OnlyAdvanceAndResetMoveTheFilters
  intro i s t ht hadv hreset
  rcases exec_cases ht with ⟨-, rfl⟩ | ⟨-, he⟩
  · exact State.sameSigned_of_kept rfl rfl
  · exact he.sameSigned hadv hreset

/-- Settles O48, entry by entry. -/
theorem resonanceTable : Obligations.ResonanceTable := by
  unfold Obligations.ResonanceTable
  decide

end Sys2Proof.Machine

/-!
PROOFS. The statement about the external filter (43_external_filter): its sub-step, the split of an enabled advance
into sub-steps, and the disabled path.
-/

namespace Sys2Proof.Machine

section ExternalAdvance

variable {P : Params} {c : Chip} {cfg : Cfg} {n : Nat} {vin : Int} {e g : ExtFilter}

/-- An advance of no cycles changes nothing (43_external_filter R212). -/
theorem extAdvance_zero : extAdvance P c cfg 0 vin e = .ok e := if_pos rfl

/-- The disabled external filter outputs the input less EXT_DC and clears its state (43_external_filter R210). -/
theorem extAdvance_disabled_cases (hn : 1 ≤ n) (hoff : cfg.extEnabled = false)
    (h : extAdvance P c cfg n vin e = .ok g) : g = { vo := vin - P.extDc c, vlp := 0, vhp := 0 } := by
  rw [extAdvance, if_neg (Nat.one_le_iff_ne_zero.1 hn), hoff, if_neg Bool.false_ne_true] at h
  simp only [bind_eq_ok, checked_eq_ok] at h
  obtain ⟨_, ⟨-, rfl⟩, _, ⟨-, rfl⟩, h⟩ := h
  cases h
  rfl

/-- The enabled external filter runs the sub-steps in turn (43_external_filter R212). -/
theorem extAdvance_of_enabled (hn : 1 ≤ n) (hen : cfg.extEnabled = true) :
    extAdvance P c cfg n vin e = (subSteps n).foldlM (extSubStep P vin) e := by
  rw [extAdvance, if_neg (Nat.one_le_iff_ne_zero.1 hn), if_pos hen]

/-- Up to eight cycles are one sub-step (43_external_filter R212). -/
theorem extAdvance_of_le (h1 : 1 ≤ n) (h8 : n ≤ 8) (hen : cfg.extEnabled = true) :
    extAdvance P c cfg n vin e = extSubStep P vin e n := by
  rw [extAdvance_of_enabled h1 hen, subSteps_of_le n h1 h8, List.foldlM_cons]
  exact bind_pure _

/-- Of more than eight cycles the first eight are a sub-step (43_external_filter R212). -/
theorem extAdvance_add (hn : 1 ≤ n) (hen : cfg.extEnabled = true) :
    extAdvance P c cfg (8 + n) vin e = extSubStep P vin e 8 >>= extAdvance P c cfg n vin := by
  rw [extAdvance_of_enabled (hn.trans (Nat.le_add_left n 8)) hen, subSteps_add, List.foldlM_cons]
  exact bind_congr fun _ => (extAdvance_of_enabled hn hen).symm

end ExternalAdvance

/-- Settles O51: a sub-step is what its checked values say, the enabled advance is made of sub-steps, and the
disabled one is a single checked difference. -/
theorem externalFilterEquations : Obligations.ExternalFilterEquations := by
  unfold Obligations.ExternalFilterEquations
  exact fun P c cfg vin e g =>
    ⟨fun d h => (extSubStep_cases h).1, fun n => extAdvance_disabled_cases, fun n => extAdvance_of_le,
      fun n => extAdvance_add, extAdvance_zero⟩

end Sys2Proof.Machine

/-!
PROOFS. The statements about the amplitude modulator and hard sync (44_voice_sync): which accumulators the sync step
zeroes, the source that cannot sync, and the value of a voice output.
-/

namespace Sys2Proof.Machine

/-! ### Hard sync -/

section Sync

variable {P : Params} {osc : Triple Osc} {v : VoiceId}

/-- A voice is synced when its sync bit is set and its source rose, unless the exception applies: the source has its own
sync bit set and its own source rose (44_voice_sync R223, R224). -/
theorem doSync_eq_true :
    doSync P osc v = true ↔
      (osc.get v).sync = true ∧ (osc.get (src v)).msbRising = true ∧
        ¬(P.syncException = true ∧ (osc.get (src v)).sync = true ∧ (osc.get (src (src v))).msbRising = true) := by
  simp only [doSync, Bool.and_eq_true, Bool.not_eq_true', Bool.eq_false_iff, ne_eq, and_assoc]

/-- A source that did not rise syncs no voice (44_voice_sync R224). -/
theorem doSync_of_source_not_rising (h : (osc.get (src v)).msbRising = false) : doSync P osc v = false := by
  rw [doSync, h, Bool.and_false, Bool.false_and]

/-- Sync touches the accumulator only (44_voice_sync R224). -/
theorem syncedOsc_eq : syncedOsc P osc v = { osc.get v with acc := if doSync P osc v then 0 else (osc.get v).acc } := by
  unfold syncedOsc
  split <;> rfl

end Sync

/-! ### The voice output -/

/-- A voice output that does not overflow has the formula's value (44_voice_sync R220). -/
theorem voiceOut_cases {P : Params} {c : Chip} {out : BitVec 12} {cnt : Byte} {x : Int}
    (h : voiceOut P c out cnt = .ok x) :
    x = (P.waveDac c out - P.waveZero c) * P.envDac c cnt + P.voiceDc c := by
  simp only [voiceOut, bind_eq_ok, checked_eq_ok] at h
  obtain ⟨_, ⟨-, rfl⟩, _, ⟨-, rfl⟩, _, ⟨-, rfl⟩, _, ⟨-, rfl⟩, _, ⟨-, rfl⟩, _, ⟨-, rfl⟩, -, rfl⟩ := h
  rfl

/-! ### The obligations -/

/-- Settles O35: the sync decision read as a proposition; the step replaces the accumulator alone. -/
theorem syncStepZeroesSyncedVoices : Obligations.SyncStepZeroesSyncedVoices := by
  unfold Obligations.SyncStepZeroesSyncedVoices
  intro P osc v source synced
  have hsynced : doSync P osc v = true ↔ synced := doSync_eq_true
  rw [syncStep_get, syncedOsc_eq]
  simp only [hsynced]

/-- Settles O36: a tested source's rising flag is clear after its own cycle, so it cannot sync. -/
theorem testedSourceNeverSyncs : Obligations.TestedSourceNeverSyncs := by
  unfold Obligations.TestedSourceNeverSyncs
  intro P s v htest
  obtain ⟨-, hnotRising⟩ := Osc.cycle_tested P s.chip _ htest
  have hnotSynced : doSync P (s.osc.map (Osc.cycle P s.chip)) v = false :=
    doSync_of_source_not_rising (by rwa [Triple.get_map])
  rw [State.cycle_osc_of_not_synced hnotSynced]

/-- Settles O37: the output has a value on this machine, and whatever value it has is the formula's. -/
theorem voiceOutputFormula : Obligations.VoiceOutputFormula := by
  unfold Obligations.VoiceOutputFormula
  intro c osc env v
  obtain ⟨x, hx, -⟩ := voiceOutOf_bounds c osc env v
  rw [hx, voiceOut_cases hx]

end Sys2Proof.Machine

/-!
PROOFS. The statements about the chip-level operations (45_chip): what a register write stores and leaves alone, what
a read returns, the configuration setters, the sample output, and one cycle of the block.
-/

namespace Sys2Proof.Machine

/-! ### Operations that answer at once -/

/-- An operation without an effect answers the state it began in, live or not. -/
theorem afterOp_self (s : State) : afterOp s s = .next s := by
  rw [afterOp, ite_self]

/-- WRITE ignores an address outside the register space (45_chip R243). -/
theorem State.write_of_out_of_range (P : Params) (s : State) {a : Byte} (d : Byte) (ha : 32 ≤ a.toNat) :
    s.write P a d = s := if_pos ha

/-- READ refuses an address outside the register space (45_chip R247). -/
theorem State.readOp_of_out_of_range (P : Params) {s : State} {a : Byte} (hr : s.refused = none)
    (ha : 32 ≤ a.toNat) : s.readOp P a = { s with refused := some (.readOutOfRange a.toNat) } := by
  rw [State.readOp, if_pos (show 31 < a.toNat from ha), State.refuse_live _ _ hr]

/-- The value of a read, with READ_OTHER's reading as a condition (45_chip R246). -/
theorem State.readValue_eq (P : Params) (s : State) (a : Addr) :
    s.readValue P a =
      if a = 0x1B then (oscOutput P s.chip s.osc .v2).extractLsb' 4 8
      else if a = 0x1C then (s.env.get .v2).cnt
      else if P.readOther = .shadow then s.readShadow a.toNat else s.lastBus := by
  unfold State.readValue
  cases P.readOther <;> rfl

/-- ADVANCE 0 computes nothing (45_chip R249). -/
theorem State.advanceChecked_zero (P : Params) (s : State) : s.advanceChecked P 0 = .ok s := if_pos rfl

/-! ### What a register write stores -/

/-- An unmapped offset's write stores the byte and dispatches nothing (45_chip R242). -/
theorem State.apply_unmapped (P : Params) (s : State) (u : UnmappedOffset) (d : Byte) :
    s.apply P u.addr d = s.storeShadow u.addr d := by
  rw [State.apply, targetOf_unmapped, State.dispatch]

/-- The offset whose byte a WRITE of offset `a` stores: its own on MOS6581, the held write's, if any, on MOS8580
(20_memory R66). -/
def State.storedBy (s : State) (a : Addr) : Option Addr :=
  match s.chip with
  | .mos6581 => some a
  | .mos8580 => s.pending.map HeldWrite.addr

/-- `t` differs from `s` at most by the write of the offset `stored` and in the pipeline (45_chip R241, R244). -/
def State.keepsAllBut (stored : Option Addr) (s t : State) : Prop :=
  (t.flt.vhp = s.flt.vhp ∧ t.flt.vbp = s.flt.vbp ∧ t.flt.vlp = s.flt.vlp ∧ t.flt.vnf = s.flt.vnf) ∧
    t.ext = s.ext ∧ t.chip = s.chip ∧ t.cfg = s.cfg ∧ t.fault = s.fault ∧ t.refused = s.refused ∧
    t.stream = s.stream ∧ t.pc = s.pc ∧ t.result = s.result ∧
    (∀ b : Nat, stored.map BitVec.toNat ≠ some b → t.readShadow b = s.readShadow b) ∧
    (∀ v : VoiceId, (∀ r : VoiceReg, stored ≠ some (voiceAddr v r)) →
      t.osc.get v = s.osc.get v ∧ t.env.get v = s.env.get v)

section WriteFrame

variable {P : Params} {s t : State} {a : Addr} {d : Byte} {stored : Option Addr}

theorem State.keepsAllBut_refl (stored : Option Addr) (s : State) : s.keepsAllBut stored s :=
  ⟨⟨rfl, rfl, rfl, rfl⟩, rfl, rfl, rfl, rfl, rfl, rfl, rfl, rfl, fun _ _ => rfl, fun _ _ => ⟨rfl, rfl⟩⟩

theorem State.keepsAllBut.setPending (h : s.keepsAllBut stored t) (p : Option HeldWrite) :
    s.keepsAllBut stored (t.setPending p) := h

theorem State.apply_keepsAllBut (P : Params) (s : State) (a : Addr) (d : Byte) :
    s.keepsAllBut (some a) (s.apply P a d) := by
  refine ⟨s.apply_signed P a d, by simp, by simp, by simp, by simp, by simp, by simp, by simp, by simp,
    fun b hb => ?_, fun v hv => ?_⟩
  · exact s.readShadow_apply_other P a d b fun heq => hb (congrArg some heq.symm)
  · exact s.apply_otherVoice P a d v fun r heq => hv r (congrArg some heq)

/-- A flush writes the held offset, if there is one (20_memory R66). -/
theorem State.flush_keepsAllBut (P : Params) (s : State) :
    s.keepsAllBut (s.pending.map HeldWrite.addr) (s.flush P) := by
  cases hp : s.pending with
  | none =>
    rw [State.flush_none P s hp]
    exact State.keepsAllBut_refl _ s
  | some w =>
    rw [State.flush_some P s w hp]
    exact (State.apply_keepsAllBut P s w.addr w.data).setPending none

theorem State.writeInRange_keepsAllBut (P : Params) (s : State) (a : Addr) (d : Byte) :
    s.keepsAllBut (s.storedBy a) (s.writeInRange P a d) := by
  unfold State.writeInRange State.storedBy
  cases s.chip with
  | mos6581 => exact s.apply_keepsAllBut P a d
  | mos8580 => exact (s.flush_keepsAllBut P).setPending _

/-- The byte of a held write reads back once the pipeline is flushed (20_memory R66, 45_chip R241). -/
theorem State.readShadow_flush {w : HeldWrite} (hw : s.shadow.wf = true) (hp : s.pending = some w) :
    (s.flush P).readShadow w.addr.toNat = w.data := by
  rw [State.flush_some P s w hp]
  exact State.readShadow_apply_same P s w.addr w.data hw

end WriteFrame

/-! ### The sample output -/

/-- A quotient truncated toward zero lies between zero and what is divided. -/
theorem tdiv_bounds {x lo hi : Int} (d : Nat) (hlo : lo ≤ x) (hhi : x ≤ hi) (hlo0 : lo ≤ 0) (hhi0 : 0 ≤ hi) :
    lo ≤ x.tdiv d ∧ x.tdiv d ≤ hi := by
  have hd : (0 : Int) ≤ d := Int.natCast_nonneg d
  rcases le_total 0 x with hx | hx
  · have h0 := Int.tdiv_nonneg hx hd
    have hle := Int.tdiv_le_self (d : Int) hx
    omega
  · have hneg : 0 ≤ -x := by omega
    have h0 := Int.tdiv_nonneg hneg hd
    have hle := Int.tdiv_le_self (d : Int) hneg
    rw [Int.neg_tdiv] at h0 hle
    omega

/-- A quotient of a 32-bit value is 32 bits wide, so a sample never overflows (45_chip R262, log entries 10, 16). -/
theorem audioSample_of_bounds {x : Int} (hlo : -2147483648 ≤ x) (hhi : x ≤ 2147483647) (b : Nat) :
    audioSample params x b = .ok (clampSample b (x.tdiv (params.outDiv b))) := by
  have hfits : fits params (x.tdiv (params.outDiv b)) = true :=
    (fits_params _).2 (tdiv_bounds _ hlo hhi (by norm_num) (by norm_num))
  rw [audioSample, checked_of_fits _ _ _ hfits, ok_bind]
  rfl

/-- AUDIO_OUTPUT of a legal width records the sample (45_chip R262). -/
theorem State.audioOutputOp_of_legal {P : Params} {s : State} {b : Nat} {x : Int} (h1 : 1 ≤ b) (h32 : b ≤ 32)
    (hx : audioSample P s.ext.vo b = .ok x) : s.audioOutputOp P b = s.setResult (.sample x) := by
  rw [State.audioOutputOp, if_neg (by omega), hx, ok_bind]
  rfl

/-- AUDIO_OUTPUT refuses every other width (45_chip R262). -/
theorem State.audioOutputOp_of_illegal {P : Params} {s : State} {b : Nat} (hr : s.refused = none)
    (hb : b = 0 ∨ 33 ≤ b) : s.audioOutputOp P b = { s with refused := some (.badOutputWidth b) } := by
  rw [State.audioOutputOp, if_pos (by omega), State.refuse_live _ _ hr]

/-! ### The obligations -/

/-- Settles O14: an unmapped offset dispatches nothing. -/
theorem unmappedWriteStoresTheShadowOnly : Obligations.UnmappedWriteStoresTheShadowOnly := by
  unfold Obligations.UnmappedWriteStoresTheShadowOnly
  intro u d s t
  have ht : s.apply params u.addr d = t := State.apply_unmapped params s u d
  refine ⟨ht, fun hs hc => ?_⟩
  rw [unmappedWrite_eq, exec_writeAt_mos6581 _ _ _ hs hc, ht]

/-- Settles O15: the three instructions are one write, which the range check ends. -/
theorem outOfRangeWriteIsIgnored : Obligations.OutOfRangeWriteIsIgnored := by
  unfold Obligations.OutOfRangeWriteIsIgnored
  intro a d s ha
  have hwrite : afterOp s (s.write params a d) = .next s := by
    rw [State.write_of_out_of_range params s d ha, afterOp_self]
  exact ⟨hwrite, hwrite, hwrite⟩

/-- Settles O17: a marked block is unchanged; on a live one the chip type and the pipeline say which offset is
stored. -/
theorem writeFrame : Obligations.WriteFrame := by
  unfold Obligations.WriteFrame
  intro a d s t ht stored
  have hframe : s.keepsAllBut (s.storedBy a) t := by
    rw [exec_writeAt] at ht
    rcases afterOp_cases ht with ⟨-, rfl⟩ | ⟨-, rfl⟩
    · exact State.keepsAllBut_refl _ _
    · exact State.writeInRange_keepsAllBut params s a d
  obtain ⟨hsigned, hext, hchip, hcfg, hfault, hrefused, hstream, hpc, hresult, hshadow, hvoice⟩ := hframe
  refine ⟨hsigned, hext, hchip, hcfg, hfault, hrefused, hstream, hpc, hresult, hshadow, hvoice, fun hw =>
    ⟨State.readShadow_apply_same params s a d hw, fun hs hc => ?_, fun hs hc w hp => ?_⟩⟩
  · rw [exec_writeAt_mos6581 a d s hs hc] at ht
    cases ht
    exact State.readShadow_apply_same params s a d hw
  · rw [exec_writeAt_mos8580 a d s hs hc] at ht
    cases ht
    exact State.readShadow_flush hw hp

/-- Settles O18: on a live block a read records its value. -/
theorem readReturnsTapOrStoredByte : Obligations.ReadReturnsTapOrStoredByte := by
  unfold Obligations.ReadReturnsTapOrStoredByte
  intro a s hs
  rw [exec_readAt, afterOp_live _ _ hs.1 hs.2, State.readValue_eq, State.setResult]

/-- Settles O19: the three instructions are one read, which the range check refuses. -/
theorem outOfRangeReadIsRefused : Obligations.OutOfRangeReadIsRefused := by
  unfold Obligations.OutOfRangeReadIsRefused
  intro a s hs ha t
  have hread : afterOp s (s.readOp params a) = .next t := by
    rw [afterOp_live _ _ hs.1 hs.2, State.readOp_of_out_of_range params hs.2 ha]
  exact ⟨hread, hread, hread⟩

/-- Settles O57: a quotient of a 32-bit value passes the overflow check. -/
theorem audioOutputClampsTheSample : Obligations.AudioOutputClampsTheSample := by
  unfold Obligations.AudioOutputClampsTheSample
  intro b s hs hlo hhi
  have hexec : exec (.audioOutput b) s = .next (s.audioOutputOp params b) := afterOp_live _ _ hs.1 hs.2
  constructor
  · intro h1 h32 half
    rw [hexec, State.audioOutputOp_of_legal h1 h32 (audioSample_of_bounds hlo hhi b), State.setResult, clampSample]
  · intro hb
    rw [hexec, State.audioOutputOp_of_illegal hs.2 hb]

/-- Settles O20: an advance of no cycles has the state itself as its result, on a marked block too. -/
theorem advanceZeroHasNoEffect : Obligations.AdvanceZeroHasNoEffect := by
  unfold Obligations.AdvanceZeroHasNoEffect
  intro s
  have hop : s.advanceOp params 0 = s := by rw [State.advanceOp, State.advanceChecked_zero, State.orRaise_ok]
  have hexec : exec (.advance 0) s = afterOp s (s.advanceOp params 0) := rfl
  rw [hexec, hop, afterOp_self]

/-- Settles O27: the order is that of the definition of a cycle. -/
theorem cycleRunsOscillatorsSyncEnvelopes : Obligations.CycleRunsOscillatorsSyncEnvelopes := by
  unfold Obligations.CycleRunsOscillatorsSyncEnvelopes
  intro P s
  rw [State.cycle, Triple.map, Triple.map, State.setVoices]

/-- Settles O55: on a live block each setter answers its own update of the configuration. -/
theorem configurationSetters : Obligations.ConfigurationSetters := by
  unfold Obligations.ConfigurationSetters
  intro b x s hs
  exact ⟨afterOp_live _ _ hs.1 hs.2, afterOp_live _ _ hs.1 hs.2, afterOp_live _ _ hs.1 hs.2⟩

end Sys2Proof.Machine

/-!
PROOFS. The statements about ADVANCE (45_chip R249): the cycles before the filters, what it leaves unchanged, that
splitting it does not change the voices, and that it completes from a quiet block.
-/

namespace Sys2Proof.Machine

/-! ### Advances without overflow -/

section Advance

variable {P : Params} {s s1 s2 t : State} {w : HeldWrite} {m n : Nat}

/-- With no held write, ADVANCE is its cycles and the filters (45_chip R249). -/
theorem State.advanceChecked_of_free (hp : s.pending = none) (hn : 1 ≤ n) :
    s.advanceChecked P n = s.advanceCore P n := by
  rw [State.advanceChecked, if_neg (Nat.one_le_iff_ne_zero.1 hn), hp]

/-- With a held write, ADVANCE is one cycle, the write, and an advance by the cycles that remain (20_memory R66). -/
theorem State.advanceChecked_of_held (hp : s.pending = some w) (h : s.advanceChecked P (n + 1) = .ok t) :
    ∃ s1, s.advanceCore P 1 = .ok s1 ∧
      ((s1.apply P w.addr w.data).setPending none).advanceChecked P n = .ok t := by
  rcases State.advanceChecked_cases h with ⟨h0, -⟩ | ⟨-, hfree, -⟩ | ⟨w', s1, hp', hcore, hrest⟩
  · exact absurd h0 (Nat.succ_ne_zero n)
  · exact absurd (hp.symm.trans hfree) (by simp)
  · obtain rfl : w = w' := Option.some.inj (hp.symm.trans hp')
    refine ⟨s1, hcore, ?_⟩
    rcases hrest with ⟨hn, rfl⟩ | ⟨hn, hcore'⟩
    · obtain rfl : n = 0 := by omega
      exact State.advanceChecked_zero P _
    · rw [State.advanceChecked_of_free rfl (by omega)]
      exact hcore'

/-! ### The voices -/

/-- The oscillators and the envelope generators. -/
def State.voices (s : State) : Triple Osc × Triple Env := (s.osc, s.env)

/-- The voices run by themselves: neither filter has a part in them (45_chip R248, R249). -/
theorem State.advanceCore_voices (h : s.advanceCore P n = .ok t) :
    t.voices = (voicesCycle P s.chip)^[n] s.voices := by
  obtain ⟨_, _, _, _, _, _, -, -, -, -, -, -, rfl⟩ := State.advanceCore_cases h
  rw [State.iterate_cycle]
  rfl

/-- Cycles leave the external filter to the end of the advance (45_chip R249). -/
theorem State.iterate_cycle_ext (P : Params) (n : Nat) (s : State) : ((State.cycle P)^[n] s).ext = s.ext := by
  rw [State.iterate_cycle, State.setVoices_ext]

/-- With no held write, ADVANCE runs the voices by `n` cycles and keeps the pipeline empty. -/
theorem State.advanceChecked_voices (hp : s.pending = none) (h : s.advanceChecked P n = .ok t) :
    t.voices = (voicesCycle P s.chip)^[n] s.voices ∧ t.chip = s.chip ∧ t.pending = none := by
  rcases State.advanceChecked_cases h with ⟨rfl, rfl⟩ | ⟨-, -, hcore⟩ | ⟨w, s1, hheld, -⟩
  · exact ⟨rfl, rfl, hp⟩
  · obtain ⟨hchip, -, -, -, -, -, -, -, hpending, -⟩ := State.advanceCore_frame hcore
    exact ⟨State.advanceCore_voices hcore, hchip, hpending.trans hp⟩
  · exact absurd (hp.symm.trans hheld) (by simp)

/-- With no held write, the voices do not depend on the split (70_reset R312). -/
theorem State.voices_split_of_free (hp : s.pending = none) (h1 : s.advanceChecked P m = .ok s1)
    (h2 : s1.advanceChecked P n = .ok s2) (ht : s.advanceChecked P (m + n) = .ok t) : t.voices = s2.voices := by
  obtain ⟨hv1, hchip1, hp1⟩ := State.advanceChecked_voices hp h1
  obtain ⟨hv2, -, -⟩ := State.advanceChecked_voices hp1 h2
  obtain ⟨hvt, -, -⟩ := State.advanceChecked_voices hp ht
  rw [hvt, hv2, hchip1, hv1, Nat.add_comm, Function.iterate_add_apply]

/-- Nor with a held write: it takes effect after the first cycle of whichever advance comes first, and from there on
nothing is held. -/
theorem State.voices_split (h1 : s.advanceChecked P m = .ok s1) (h2 : s1.advanceChecked P n = .ok s2)
    (ht : s.advanceChecked P (m + n) = .ok t) : t.voices = s2.voices := by
  cases hp : s.pending with
  | none => exact State.voices_split_of_free hp h1 h2 ht
  | some w =>
    cases m with
    | zero =>
      obtain rfl : s = s1 := Except.ok.inj ((State.advanceChecked_zero P s).symm.trans h1)
      rw [Nat.zero_add] at ht
      rw [Except.ok.inj (ht.symm.trans h2)]
    | succ m =>
      rw [Nat.succ_add] at ht
      obtain ⟨u, hu, h1⟩ := State.advanceChecked_of_held hp h1
      obtain ⟨u', hu', ht⟩ := State.advanceChecked_of_held hp ht
      obtain rfl : u = u' := Except.ok.inj (hu.symm.trans hu')
      exact State.voices_split_of_free rfl h1 h2 ht

/-- An ADVANCE that leaves a live block began in one and did not overflow. -/
theorem exec_advance_cases (h : exec (.advance n) s = .next t) (ht : t.live) :
    s.live ∧ s.advanceChecked params n = .ok t := by
  have hop : afterOp s (s.advanceOp params n) = .next t := h
  rcases afterOp_cases hop with ⟨hq, rfl⟩ | ⟨hq, rfl⟩
  · exact absurd (hq.symm.trans ((State.quiescent_eq_false _).2 ht)) (by simp)
  · have hs := (State.quiescent_eq_false s).1 hq
    refine ⟨hs, ?_⟩
    rcases State.advanceOp_cases hs.1 rfl with hok | ⟨f, -, hfault⟩
    · exact hok
    · rw [hfault] at ht
      exact absurd ht.1 (by simp)

end Advance

/-! ### What ADVANCE leaves unchanged -/

/-- What the host sets and sees beside the registers is the same: chip type, configuration, refusal mark, stream, index
and result. -/
def State.sameHost (s t : State) : Prop :=
  t.chip = s.chip ∧ t.cfg = s.cfg ∧ t.refused = s.refused ∧ t.stream = s.stream ∧ t.pc = s.pc ∧ t.result = s.result

/-- The register fields of an oscillator (10_state R22). -/
def Osc.sameRegs (o p : Osc) : Prop :=
  p.freq = o.freq ∧ p.pw = o.pw ∧ p.sel = o.sel ∧ p.test = o.test ∧ p.ring = o.ring ∧ p.sync = o.sync

/-- The register fields of an envelope generator (10_state R25). -/
def Env.sameRegs (e f : Env) : Prop :=
  f.attack = e.attack ∧ f.decay = e.decay ∧ f.sustain = e.sustain ∧ f.release = e.release ∧ f.gate = e.gate

/-- The register fields of the voices and the filter, the pipeline, the shadow and the bus byte are the same. -/
def State.sameRegs (s t : State) : Prop :=
  t.pending = s.pending ∧ t.shadow = s.shadow ∧ t.lastBus = s.lastBus ∧ s.flt.sameRegs t.flt ∧
    ∀ v : VoiceId, (s.osc.get v).sameRegs (t.osc.get v) ∧ (s.env.get v).sameRegs (t.env.get v)

section Frame

variable {P : Params} {s t u : State} {n : Nat}

theorem State.sameHost_refl (s : State) : s.sameHost s := ⟨rfl, rfl, rfl, rfl, rfl, rfl⟩

theorem State.sameHost.trans (h : s.sameHost t) (h' : t.sameHost u) : s.sameHost u := by
  obtain ⟨hchip, hcfg, hrefused, hstream, hpc, hresult⟩ := h
  obtain ⟨hchip', hcfg', hrefused', hstream', hpc', hresult'⟩ := h'
  exact ⟨hchip'.trans hchip, hcfg'.trans hcfg, hrefused'.trans hrefused, hstream'.trans hstream, hpc'.trans hpc,
    hresult'.trans hresult⟩

theorem State.sameRegs_refl (s : State) : s.sameRegs s :=
  ⟨rfl, rfl, rfl, ⟨rfl, rfl, rfl, rfl, rfl, rfl⟩, fun _ => ⟨⟨rfl, rfl, rfl, rfl, rfl, rfl⟩, ⟨rfl, rfl, rfl, rfl, rfl⟩⟩⟩

/-- One cycle keeps every register field of an oscillator, synced or not. -/
theorem State.cycle_osc_sameRegs (P : Params) (s : State) (v : VoiceId) :
    (s.osc.get v).sameRegs ((s.cycle P).osc.get v) := by
  rcases s.cycle_osc P v with hv | hv <;> rw [hv] <;> simp [Osc.sameRegs]

theorem Env.cycle_sameRegs (P : Params) (e : Env) : e.sameRegs (e.cycle P) := by
  simp [Env.sameRegs]

theorem State.cycle_env (P : Params) (s : State) (v : VoiceId) :
    (s.cycle P).env.get v = (s.env.get v).cycle P := by
  rw [State.cycle, State.setVoices_env, Triple.get_map]

/-- Any number of cycles keep the register fields of the voices. -/
theorem State.iterate_cycle_sameRegs (P : Params) (n : Nat) (s : State) (v : VoiceId) :
    (s.osc.get v).sameRegs (((State.cycle P)^[n] s).osc.get v) ∧
      (s.env.get v).sameRegs (((State.cycle P)^[n] s).env.get v) := by
  induction n with
  | zero => exact ⟨⟨rfl, rfl, rfl, rfl, rfl, rfl⟩, ⟨rfl, rfl, rfl, rfl, rfl⟩⟩
  | succ n ih =>
    obtain ⟨hosc, henv⟩ := ih
    have hosc' := State.cycle_osc_sameRegs P ((State.cycle P)^[n] s) v
    have henv' := Env.cycle_sameRegs P (((State.cycle P)^[n] s).env.get v)
    rw [Function.iterate_succ_apply', State.cycle_env]
    simp_all [Osc.sameRegs, Env.sameRegs]

theorem State.advanceCore_sameHost (h : s.advanceCore P n = .ok t) : s.sameHost t := by
  obtain ⟨hchip, hcfg, -, hrefused, hstream, hpc, hresult, -⟩ := State.advanceCore_frame h
  exact ⟨hchip, hcfg, hrefused, hstream, hpc, hresult⟩

theorem State.advanceCore_sameRegs (h : s.advanceCore P n = .ok t) : s.sameRegs t := by
  obtain ⟨-, -, -, -, -, -, -, hshadow, hpending, hbus, hflt⟩ := State.advanceCore_frame h
  obtain ⟨_, _, _, _, _, _, -, -, -, -, -, -, rfl⟩ := State.advanceCore_cases h
  exact ⟨hpending, hshadow, hbus, hflt, State.iterate_cycle_sameRegs P n s⟩

/-- A held write that takes effect touches registers and pipeline alone (20_memory R66). -/
theorem State.apply_setPending_sameHost (P : Params) (s : State) (w : HeldWrite) :
    s.sameHost ((s.apply P w.addr w.data).setPending none) := by
  simp [State.sameHost]

theorem State.advanceChecked_sameHost (h : s.advanceChecked P n = .ok t) : s.sameHost t := by
  rcases State.advanceChecked_cases h with ⟨-, rfl⟩ | ⟨-, -, hcore⟩ | ⟨w, s1, -, h1, hrest⟩
  · exact State.sameHost_refl _
  · exact State.advanceCore_sameHost hcore
  · have hwrite := (State.advanceCore_sameHost h1).trans (State.apply_setPending_sameHost P s1 w)
    rcases hrest with ⟨-, rfl⟩ | ⟨-, hcore⟩
    · exact hwrite
    · exact hwrite.trans (State.advanceCore_sameHost hcore)

theorem State.advanceChecked_sameRegs (hp : s.pending = none) (h : s.advanceChecked P n = .ok t) :
    s.sameRegs t := by
  rcases State.advanceChecked_cases h with ⟨-, rfl⟩ | ⟨-, -, hcore⟩ | ⟨w, s1, hheld, -⟩
  · exact State.sameRegs_refl _
  · exact State.advanceCore_sameRegs hcore
  · exact absurd (hp.symm.trans hheld) (by simp)

/-- ADVANCE stores a byte at the held write's offset at most (45_chip R241). -/
theorem State.advanceChecked_readShadow (h : s.advanceChecked P n = .ok t) {b : Nat}
    (hb : (s.pending.map HeldWrite.addr).map BitVec.toNat ≠ some b) : t.readShadow b = s.readShadow b := by
  cases hp : s.pending with
  | none =>
    obtain ⟨-, hshadow, -⟩ := State.advanceChecked_sameRegs hp h
    rw [State.readShadow, hshadow, State.readShadow]
  | some w =>
    cases n with
    | zero => rw [Except.ok.inj ((State.advanceChecked_zero P s).symm.trans h)]
    | succ n =>
      obtain ⟨s1, h1, hrest⟩ := State.advanceChecked_of_held hp h
      obtain ⟨-, hshadow1, -⟩ := State.advanceCore_sameRegs h1
      obtain ⟨-, hshadow, -⟩ := State.advanceChecked_sameRegs rfl hrest
      have hne : b ≠ w.addr.toNat := fun heq => hb (by rw [hp, heq]; rfl)
      calc t.readShadow b = (s1.apply P w.addr w.data).readShadow b := congrArg (Memory.read · b) hshadow
        _ = s1.readShadow b := State.readShadow_apply_other P s1 w.addr w.data b hne
        _ = s.readShadow b := congrArg (Memory.read · b) hshadow1

/-- The frame of ADVANCE: what the host sets and sees, the register space but for the held write's offset, and with no
held write the register fields (45_chip R249). -/
def State.advanceKeeps (s t : State) : Prop :=
  s.sameHost t ∧
    (∀ b : Nat, (s.pending.map HeldWrite.addr).map BitVec.toNat ≠ some b → t.readShadow b = s.readShadow b) ∧
    (s.pending = none → s.sameRegs t)

theorem State.advanceKeeps_refl (s : State) : s.advanceKeeps s :=
  ⟨s.sameHost_refl, fun _ _ => rfl, fun _ => s.sameRegs_refl⟩

theorem State.advanceChecked_keeps (h : s.advanceChecked P n = .ok t) : s.advanceKeeps t :=
  ⟨State.advanceChecked_sameHost h, fun _ => State.advanceChecked_readShadow h,
    fun hp => State.advanceChecked_sameRegs hp h⟩

/-- The fault mark is no part of the frame (60_exceptions R283). -/
theorem State.advanceKeeps_fault (s : State) (f : Option Fault) : s.advanceKeeps { s with fault := f } :=
  s.advanceKeeps_refl

end Frame

/-! ### A quiet block -/

/-- The filter's integrators are empty, nothing is routed to it, and its volume is 0. -/
def Filter.quiet (f : Filter) : Prop :=
  f.vhp = 0 ∧ f.vbp = 0 ∧ f.vlp = 0 ∧ f.filt = 0 ∧ f.vol = 0

section Quiet

variable {c : Chip} {cfg : Cfg} {n : Nat} {f : Filter}

/-- Steps that all answer the value they begin with end in that value. -/
theorem foldlM_of_fixed {α β : Type} {step : β → α → Except Fault β} {b : β} (xs : List α)
    (h : ∀ x ∈ xs, step b x = .ok b) : xs.foldlM step b = .ok b := by
  induction xs with
  | nil => rfl
  | cons x xs ih =>
    obtain ⟨hx, hxs⟩ := List.forall_mem_cons.1 h
    rw [List.foldlM_cons, hx, ok_bind]
    exact ih hxs

/-- Zero passes every check. -/
@[simp] theorem checked_zero (P : Params) (r : OverflowSite) : checked P r 0 = .ok 0 :=
  checked_of_fits P r 0 (fits_zero P)

/-- Empty integrators without an input stay empty (42_filter R188, R189). -/
theorem svfStep_of_empty {P : Params} {site : OverflowSite} {w : Int} {k : Nat} (hhp : f.vhp = 0) (hbp : f.vbp = 0)
    (hlp : f.vlp = 0) : svfStep P site w k 0 f = .ok f := by
  obtain ⟨_, _, _, _, _, _, _, _, _, _⟩ := f
  subst hhp hbp hlp
  simp only [svfStep, mul_zero, zero_mul, Int.zero_shiftRight, sub_zero, checked_zero, ok_bind]
  rfl

/-- The coefficient of a sub-step is within 32 bits (42_filter R183, R189). -/
theorem svfSubStep_eq_svfStep {vi : Int} {d : Nat} (hd : d ≤ 8) :
    svfSubStep params c vi f d = svfStep params .r189 (((w0CeilDt params c f.fc : Int) * d) >>> (6 : Nat)) 14 vi f := by
  have hw := w0CeilDt_le c f.fc
  have hp0 : (0 : Int) ≤ (w0CeilDt params c f.fc : Int) * d := by positivity
  have hp : (w0CeilDt params c f.fc : Int) * d ≤ 210824 := by exact_mod_cast Nat.mul_le_mul hw hd
  obtain ⟨hs0, hs⟩ := shiftRight_bounds _ 210824 6 (by norm_num) (by omega) hp
  rw [svfSubStep, checked_of_fits _ _ _ ((fits_params _).2 (by omega)), ok_bind,
    checked_of_fits _ _ _ ((fits_params _).2 (by omega)), ok_bind]

/-- With nothing routed, a quiet filter takes up the bypass sum alone (42_filter R186..R189). -/
theorem filterAdvance_of_quiet {x0 x1 x2 vnf : Int} (hn : 1 ≤ n) (hen : cfg.filterEnabled = true) (hq : f.quiet)
    (hroute : route params f x0 x1 x2 cfg.extIn = .ok (0, vnf)) :
    filterAdvance params c cfg n x0 x1 x2 f = .ok { f with vnf := vnf } := by
  obtain ⟨hhp, hbp, hlp, -, -⟩ := hq
  rw [filterAdvance_of_enabled hn hen hroute]
  split
  · exact svfStep_of_empty hhp hbp hlp
  · refine foldlM_of_fixed _ fun d hd => ?_
    rw [svfSubStep_eq_svfStep (subSteps_bounds n d hd).2]
    exact svfStep_of_empty hhp hbp hlp

/-- At volume 0 the filter's output is 0 (42_filter R191). -/
theorem filterOutput_of_quiet (hen : cfg.filterEnabled = true) (hq : f.quiet)
    (hnf : -536870912 ≤ f.vnf ∧ f.vnf ≤ 536870912) : filterOutput params c cfg f = .ok 0 := by
  obtain ⟨hhp, hbp, hlp, -, hvol⟩ := hq
  have hdc := params_filterDc_bounds c
  have hsum : checkedSum params .r191 [0, 0, 0] = .ok 0 :=
    checkedSum_of_bounds .r191 0 _ le_rfl (by simp) (by norm_num)
  rw [filterOutput, hhp, hbp, hlp, hvol]
  simp only [ite_self, hsum, ok_bind, hen, if_true, add_zero]
  rw [checked_of_fits _ _ f.vnf ((fits_params _).2 (by omega)), ok_bind,
    checked_of_fits _ _ (params.filterDc c) ((fits_params _).2 (by omega)), ok_bind,
    checked_of_fits _ _ (f.vnf + params.filterDc c) ((fits_params _).2 (by omega)), ok_bind]
  simp

/-- A product of a 24-bit coefficient and a sub-step's cycles is within 32 bits (43_external_filter R211, R212). -/
theorem coefficient_mul_bounds {w d : Nat} (hw : w < 16777216) (hd : d ≤ 8) :
    -134217728 ≤ (w : Int) * d ∧ (w : Int) * d ≤ 134217728 := by
  have h0 : (0 : Int) ≤ (w : Int) * d := by positivity
  have h : (w : Int) * d ≤ 134217728 := by exact_mod_cast Nat.mul_le_mul (Nat.le_of_lt hw) hd
  omega

/-- An empty external filter without an input stays empty (43_external_filter R212). -/
theorem extSubStep_of_empty {d : Nat} (hd : d ≤ 8) : extSubStep params 0 ⟨0, 0, 0⟩ d = .ok ⟨0, 0, 0⟩ := by
  have hl := coefficient_mul_bounds params_w0lp_lt hd
  have hh := coefficient_mul_bounds params_w0hp_lt hd
  have hl8 := shiftRight_bounds _ 134217728 8 (by norm_num) hl.1 hl.2
  simp only [extSubStep, sub_zero, checked_zero, ok_bind, mul_zero, Int.zero_shiftRight, add_zero]
  rw [checked_of_fits _ _ _ ((fits_params _).2 (by omega)), ok_bind,
    checked_of_fits _ _ _ ((fits_params _).2 (by omega)), ok_bind,
    checked_of_fits _ _ _ ((fits_params _).2 (by omega)), ok_bind]
  rfl

theorem extAdvance_of_empty (hn : 1 ≤ n) (hen : cfg.extEnabled = true) :
    extAdvance params c cfg n 0 ⟨0, 0, 0⟩ = .ok ⟨0, 0, 0⟩ := by
  rw [extAdvance_of_enabled hn hen]
  exact foldlM_of_fixed _ fun d hd => extSubStep_of_empty (subSteps_bounds n d hd).2

/-- With nothing routed, every input goes to the bypass sum, which has a value on this machine (42_filter R186). -/
theorem route_of_unrouted {x0 x1 x2 x : Int} (hfilt : f.filt = 0) (h0 : -134217728 ≤ x0 ∧ x0 ≤ 134217728)
    (h1 : -134217728 ≤ x1 ∧ x1 ≤ 134217728) (h2 : -134217728 ≤ x2 ∧ x2 ≤ 134217728)
    (hx : -134217728 ≤ x ∧ x ≤ 134217728) :
    ∃ vnf, route params f x0 x1 x2 x = .ok (0, vnf) ∧ (-536870912 ≤ vnf ∧ vnf ≤ 536870912) ∧
      vnf = (x0 >>> params.filterInShift) + (x1 >>> params.filterInShift) +
        (if f.voice3off then 0 else x2 >>> params.filterInShift) + (x >>> params.filterInShift) := by
  obtain ⟨vi, vnf, hroute, -, -, hlo, hhi⟩ := route_of_bounds f x0 x1 x2 x h0 h1 h2 hx
  obtain ⟨hvi, hvnf⟩ := route_cases hroute
  simp only [shiftedInputs, hfilt, List.map_cons, List.map_nil, List.sum_cons, List.sum_nil, BitVec.ofNat_eq_ofNat,
    BitVec.getLsbD_zero, Bool.false_eq_true, if_false, and_true, add_zero] at hvi hvnf
  subst hvi
  exact ⟨vnf, hroute, ⟨hlo, hhi⟩, by rw [hvnf, add_assoc, add_assoc]⟩

end Quiet

/-! ### The obligations -/

/-- Settles O21: the parts that have a value put the advance together. -/
theorem advanceRunsCyclesThenFilters : Obligations.AdvanceRunsCyclesThenFilters := by
  unfold Obligations.AdvanceRunsCyclesThenFilters
  intro n s x0 x1 x2 vin f e hs hp hn s1 h0 h1 h2 hf hv he
  exact exec_advance_of_ok hs ((State.advanceChecked_of_free hp hn).trans
    (State.advanceCore_of_parts h0 h1 h2 hf hv he))

/-- Settles O25: a marked block, a result and an overflow all keep the frame. -/
theorem advanceFrame : Obligations.AdvanceFrame := by
  unfold Obligations.AdvanceFrame
  intro n s t ht
  have hop : afterOp s (s.advanceOp params n) = .next t := ht
  have hkeeps : s.advanceKeeps t := by
    rcases afterOp_cases hop with ⟨-, rfl⟩ | ⟨hq, rfl⟩
    · exact State.advanceKeeps_refl _
    · rcases State.advanceOp_cases ((State.quiescent_eq_false s).1 hq).1 rfl with hok | ⟨f, -, hfault⟩
      · exact State.advanceChecked_keeps hok
      · rw [hfault]
        exact s.advanceKeeps_fault _
  obtain ⟨⟨hchip, hcfg, hrefused, hstream, hpc, hresult⟩, hread, hregs⟩ := hkeeps
  refine ⟨hchip, hcfg, hrefused, hstream, hpc, hresult, hread, fun hp => ?_⟩
  obtain ⟨hpending, hrest⟩ := hregs hp
  exact ⟨hpending.trans hp, hrest⟩

/-- Settles O26: none of the three advances overflows, and their results have the same voices. -/
theorem voicesDoNotDependOnTheSplit : Obligations.VoicesDoNotDependOnTheSplit := by
  unfold Obligations.VoicesDoNotDependOnTheSplit
  intro m n s s1 s2 t h1 h2 ht hlive2 hlive
  obtain ⟨hlive1, h2⟩ := exec_advance_cases h2 hlive2
  obtain ⟨-, h1⟩ := exec_advance_cases h1 hlive1
  obtain ⟨-, ht⟩ := exec_advance_cases ht hlive
  exact Prod.ext_iff.1 (State.voices_split h1 h2 ht)

/-- Settles O24: each part of the advance has a value on this machine, and both filters stay empty. -/
theorem quietAdvanceCompletes : Obligations.QuietAdvanceCompletes := by
  unfold Obligations.QuietAdvanceCompletes
  intro n s hs hp hn hfe hee hlo hhi hhp hbp hlp hfilt hvol hext s1 x sum
  have hquiet : s.flt.quiet := ⟨hhp, hbp, hlp, hfilt, hvol⟩
  have hvoice (v : VoiceId) :
      voiceOutOf params s.chip s1.osc s1.env v = .ok (x v) ∧ -134217728 ≤ x v ∧ x v ≤ 134217728 := by
    obtain ⟨y, hy, hylo, hyhi⟩ := voiceOutOf_bounds s.chip s1.osc s1.env v
    have hyx : y = x v := (voiceOut_cases hy).trans (Int.add_zero _)
    rw [← hyx]
    exact ⟨hy, by omega, by omega⟩
  obtain ⟨h0, hb0⟩ := hvoice .v0
  obtain ⟨h1, hb1⟩ := hvoice .v1
  obtain ⟨h2, hb2⟩ := hvoice .v2
  obtain ⟨vnf, hroute, hbounds, hvnf⟩ := route_of_unrouted hfilt hb0 hb1 hb2 ⟨hlo, hhi.le⟩
  have hflt : filterAdvance params s.chip s.cfg n (x .v0) (x .v1) (x .v2) s.flt = .ok { s.flt with vnf := vnf } :=
    filterAdvance_of_quiet hn hfe hquiet hroute
  have hout : filterOutput params s.chip s.cfg { s.flt with vnf := vnf } = .ok 0 :=
    filterOutput_of_quiet hfe hquiet hbounds
  have hextern : extAdvance params s.chip s.cfg n 0 s.ext = .ok s1.ext := by
    have hkept : s1.ext = s.ext := State.iterate_cycle_ext params n s
    rw [hkept, hext]
    exact extAdvance_of_empty hn hee
  have hexec := advanceRunsCyclesThenFilters n s _ _ _ _ _ _ hs hp hn h0 h1 h2 hflt hout hextern
  rw [hvnf] at hexec
  exact hexec

end Sys2Proof.Machine

/-!
PROOFS. The statements about the model-only outcomes (60_exceptions): a marked block does nothing any more, an overflow
discards the whole ADVANCE, and a block with no operation waiting is idle.
-/

namespace Sys2Proof.Machine

section Marks

variable {s : State} {w : HeldWrite} {f : Fault} {n : Nat}

/-! ### A marked block -/

/-- Only a block with a fault or refusal mark is quiescent (60_exceptions R283, R284). -/
theorem State.quiescent_eq_true : s.quiescent = true ↔ ¬ s.live := by
  rw [← Bool.not_eq_false, State.quiescent_eq_false]

/-- Every instruction hands its result to the one end that looks at the marks (60_exceptions R283, R284). -/
theorem exec_eq_afterOp (i : Instr) (s : State) : ∃ t, exec i s = afterOp s t := by
  cases i <;> exact ⟨_, rfl⟩

/-! ### An overflow of ADVANCE -/

/-- On a live block an ADVANCE that overflows answers the fault mark alone (60_exceptions R283). -/
theorem exec_advance_of_error (hs : s.live) (h : s.advanceChecked params n = .error f) :
    exec (.advance n) s = .next { s with fault := some f } := by
  obtain ⟨hfault, hrefused⟩ := hs
  have hexec : exec (.advance n) s = afterOp s (s.advanceOp params n) := rfl
  rw [hexec, afterOp_live _ _ hfault hrefused, State.advanceOp_of_error hfault h]

/-- With a held write, an overflow of the first cycle is the overflow of the advance: the write and the cycles after it
are not reached (20_memory R66). -/
theorem State.advanceChecked_held_error {P : Params} (hp : s.pending = some w) (hn : 1 ≤ n)
    (h : s.advanceCore P 1 = .error f) : s.advanceChecked P n = .error f := by
  rw [State.advanceChecked, if_neg (Nat.one_le_iff_ne_zero.1 hn), hp]
  dsimp only
  rw [h, error_bind]

end Marks

/-! ### The obligations -/

/-- Settles O8: whatever the instruction computes, its end drops it on a marked block. -/
theorem quiescentBlockIgnoresEveryOperation : Obligations.QuiescentBlockIgnoresEveryOperation := by
  unfold Obligations.QuiescentBlockIgnoresEveryOperation
  intro i s hs
  obtain ⟨t, ht⟩ := exec_eq_afterOp i s
  rw [ht, afterOp_quiescent s t (State.quiescent_eq_true.2 hs)]

/-- Settles O22: each part's overflow is that of the whole advance, whose changes it discards. -/
theorem overflowDiscardsTheAdvance : Obligations.OverflowDiscardsTheAdvance := by
  unfold Obligations.OverflowDiscardsTheAdvance
  intro n s f hs hn discarded
  have hfree (hp : s.pending = none) (h : s.advanceCore params n = .error f) : discarded :=
    exec_advance_of_error hs ((State.advanceChecked_of_free hp hn).trans h)
  refine ⟨hfree, ?filter, fun w hp h => ?firstCycle, fun w s1 hp hn2 h1 h => ?laterCycles⟩
  case filter =>
    intro x0 x1 x2 hp s1 h0 h1 h2 hf
    exact hfree hp (State.advanceCore_of_filter_error h0 h1 h2 hf)
  case firstCycle => exact exec_advance_of_error hs (State.advanceChecked_held_error hp hn h)
  case laterCycles =>
    have hrest : s.advanceChecked params (n - 1 + 1) = .error f :=
      (State.advanceChecked_held_succ hp h1 (Nat.le_sub_one_of_lt hn2)).trans h
    rw [Nat.sub_add_cancel hn] at hrest
    exact exec_advance_of_error hs hrest

/-- Settles O6: with an empty stream the step takes no word and runs nothing. -/
theorem idleBlockDoesNotChange : Obligations.IdleBlockDoesNotChange := by
  unfold Obligations.IdleBlockDoesNotChange
  intro s hs
  rw [step, hs]

end Sys2Proof.Machine
